-- ==== Sys2Proof/Word.lean ====
section
/-! DEFINITION. The two word types: every value of the machine is an unsigned 8-bit or 16-bit number (R107). -/

namespace Sys2Proof

/-- An 8-bit value: a general register, a memory byte, an immediate `d8` (R21, R50, R73). -/
abbrev Byte := BitVec 8

/-- A 16-bit value: SP, PC, an address, a register pair, an immediate `d16` (R23 to R25, R50, R73). -/
abbrev Word := BitVec 16

end Sys2Proof
end

