-- ==== Sys2Proof/Machine/Adder.lean ====
section
/-! DEFINITION. The bit-width adder (section 1 of 40_functional_units.md): the normative arithmetic form, and the ripple form
that R94 says is equal to it. -/

namespace Sys2Proof.Machine

/-- The three outputs of the adder (R90). -/
structure AdderOut (width : Nat) where
  result      : BitVec width
  carryOut    : Bool
  auxCarryOut : Bool
deriving DecidableEq, Repr

/-- `addWithCarry(a, b, cin, width)`: the sum modulo 2^width (R91), whether it overflowed the width (R92), and the carry from
bit 3 to bit 4 (R93). The machine uses widths 8 and 16. -/
def addWithCarry {width : Nat} (a b : BitVec width) (cin : Bool) : AdderOut width where
  result := BitVec.ofNat width (a.toNat + b.toNat + cin.toNat)
  carryOut := decide (2 ^ width ≤ a.toNat + b.toNat + cin.toNat)
  auxCarryOut := decide (16 ≤ a.toNat % 16 + b.toNat % 16 + cin.toNat)

/-- `neg(x, width)`, the two's-complement negation that decrement adds (R95). -/
def negate {width : Nat} (x : BitVec width) : BitVec width := ~~~x + 1

/-- The carry into bit `i` of the ripple form: `c[0] = cin`, `c[i+1] = (a[i] & b[i]) | (c[i] & (a[i] ^ b[i]))` (R94). -/
def rippleCarry {width : Nat} (a b : BitVec width) (cin : Bool) (i : Nat) : Bool :=
  match i with
  | 0 => cin
  | j + 1 => (a.getLsbD j && b.getLsbD j) || (rippleCarry a b cin j && (a.getLsbD j ^^ b.getLsbD j))

/-- Bit `i` of the ripple form's result: `a[i] ^ b[i] ^ c[i]` (R94). -/
def rippleBit {width : Nat} (a b : BitVec width) (cin : Bool) (i : Nat) : Bool :=
  a.getLsbD i ^^ b.getLsbD i ^^ rippleCarry a b cin i

/-- The number that the low `n` result bits spell. -/
def rippleSum {width : Nat} (a b : BitVec width) (cin : Bool) (n : Nat) : Nat :=
  match n with
  | 0 => 0
  | i + 1 => rippleSum a b cin i + (rippleBit a b cin i).toNat * 2 ^ i

/-- The whole ripple form: carryOut is `c[width]` and auxCarryOut is `c[4]` (R94). -/
def rippleAdd {width : Nat} (a b : BitVec width) (cin : Bool) : AdderOut width where
  result := BitVec.ofNat width (rippleSum a b cin width)
  carryOut := rippleCarry a b cin width
  auxCarryOut := rippleCarry a b cin 4

/-- A three-operand sum by two passes of an adder without carry-in (R108). -/
def twoPassAdd {width : Nat} (a b : BitVec width) (cin : Bool) : AdderOut width :=
  let first := addWithCarry a b false
  let second := addWithCarry first.result (BitVec.ofNat width cin.toNat) false
  { result := second.result
    carryOut := first.carryOut || second.carryOut
    auxCarryOut := first.auxCarryOut || second.auxCarryOut }

end Sys2Proof.Machine
end

