-- ==== Sys2Proof/Machine/Codec.lean ====
section
/-! DEFINITION. The register-pair codec (section 3 of 40_functional_units.md). -/

namespace Sys2Proof

/-- `pack(high, low)`: bits 15:8 are `high`, bits 7:0 are `low` (R104). -/
def pack (high low : Byte) : Word := high ++ low

/-- `unpack(value)`: the high byte and the low byte (R105). -/
def unpack (value : Word) : Byte × Byte := (value.extractLsb' 8 8, value.extractLsb' 0 8)

end Sys2Proof
end

