-- ==== Sys2Proof/Syntax.lean ====
section
/-! DEFINITION. The syntax: register, operand and pair codes, the instructions, and the two shapes a decoder works with.

`Instr` has one constructor for each implemented row of spec/opcode_table.json (135 opcode bytes), in the table's order, and
ONE constructor `trap op` for the 121 rows whose mnemonic is TRAP (R79, R112; log 6). -/

namespace Sys2Proof

/-- The seven 8-bit general registers (R21), in the order of their codes (R74). -/
inductive Reg where
  | b | c | d | e | h | l | a
deriving DecidableEq, Repr

/-- What a 3-bit register code selects: a register, or `m`, the memory byte at address HL (R74). -/
inductive Operand where
  | reg (r : Reg)
  | m
deriving DecidableEq, Repr

/-- What a 2-bit pair code selects (R75). -/
inductive Pair where
  | bc | de | hl | sp
deriving DecidableEq, Repr

/-- The instructions: one constructor for each row of the opcode table (R77, R78). A register or pair is part of the
row's name; the only operands left are the immediates `d8`, `d16` and `addr` of R73, and the byte of a trapping opcode. -/
inductive Instr where
  | nop
  | lxiB (d16 : Word)
  | staxB
  | inxB
  | inrB
  | dcrB
  | mviB (d8 : Byte)
  | rlc
  | dadB
  | ldaxB
  | dcxB
  | inrC
  | dcrC
  | mviC (d8 : Byte)
  | rrc
  | lxiD (d16 : Word)
  | staxD
  | inxD
  | inrD
  | dcrD
  | mviD (d8 : Byte)
  | ral
  | dadD
  | ldaxD
  | dcxD
  | inrE
  | dcrE
  | mviE (d8 : Byte)
  | rar
  | lxiH (d16 : Word)
  | shld (addr : Word)
  | inxH
  | inrH
  | dcrH
  | mviH (d8 : Byte)
  | dadH
  | lhld (addr : Word)
  | dcxH
  | inrL
  | dcrL
  | mviL (d8 : Byte)
  | cma
  | lxiSP (d16 : Word)
  | sta (addr : Word)
  | inxSP
  | inrM
  | dcrM
  | mviM (d8 : Byte)
  | stc
  | dadSP
  | lda (addr : Word)
  | dcxSP
  | inrA
  | dcrA
  | mviA (d8 : Byte)
  | cmc
  | movBB
  | movBC
  | movBD
  | movBE
  | movBH
  | movBL
  | movBM
  | movBA
  | movCB
  | movCC
  | movCD
  | movCE
  | movCH
  | movCL
  | movCM
  | movCA
  | movDB
  | movDC
  | movDD
  | movDE
  | movDH
  | movDL
  | movDM
  | movDA
  | movEB
  | movEC
  | movED
  | movEE
  | movEH
  | movEL
  | movEM
  | movEA
  | movHB
  | movHC
  | movHD
  | movHE
  | movHH
  | movHL
  | movHM
  | movHA
  | movLB
  | movLC
  | movLD
  | movLE
  | movLH
  | movLL
  | movLM
  | movLA
  | movMB
  | movMC
  | movMD
  | movME
  | movMH
  | movML
  | movMA
  | movAB
  | movAC
  | movAD
  | movAE
  | movAH
  | movAL
  | movAM
  | movAA
  | addB
  | addC
  | addD
  | addE
  | addH
  | addL
  | addM
  | addA
  | adcB
  | adcC
  | adcD
  | adcE
  | adcH
  | adcL
  | adcM
  | adcA
  /-- Any of the 121 rows named TRAP; `op` is the opcode byte (R170). -/
  | trap (op : Byte)
deriving DecidableEq, Repr

/-- An instruction with its fields pulled apart as the formats of R71 give them: the operation and its operand codes. Each
constructor is one assembler form of R81. -/
inductive Form where
  | nop
  | mov (dst src : Operand)
  | mvi (dst : Operand) (d8 : Byte)
  | lxi (rp : Pair) (d16 : Word)
  | stax (rp : Pair)
  | ldax (rp : Pair)
  | sta (addr : Word)
  | lda (addr : Word)
  | shld (addr : Word)
  | lhld (addr : Word)
  | inr (dst : Operand)
  | dcr (dst : Operand)
  | inx (rp : Pair)
  | dcx (rp : Pair)
  | dad (rp : Pair)
  | add (src : Operand)
  | adc (src : Operand)
  | rlc | rrc | ral | rar | cma | stc | cmc
  | trap (op : Byte)
deriving DecidableEq, Repr

/-- One entry of the 256-entry decode table (R112): an instruction with its fields fixed and no further byte, one that takes
an 8-bit or a 16-bit immediate, or TRAP. -/
inductive Entry where
  | plain (i : Instr)
  | imm8 (f : Byte → Instr)
  | imm16 (f : Word → Instr)
  | trap

/-- Why a list of bytes is no instruction: it ends before the instruction does. Every opcode byte decodes (R77). -/
inductive DecodeError where
  /-- There is no opcode byte. -/
  | noOpcode
  /-- The opcode takes a second byte and the list ends before it. -/
  | missingByte2 (op : Byte)
  /-- The opcode takes a third byte and the list ends before it. -/
  | missingByte3 (op : Byte)
deriving DecidableEq, Repr

end Sys2Proof
end

