-- ==== Sys2Proof/WellFormed.lean ====
section
/-! DEFINITION. Which terms of `Instr` stand for an instruction of the machine. -/

namespace Sys2Proof

/-- The 121 trapping opcodes, as R79 lists them. -/
def isTrapOpcode (op : Byte) : Bool :=
  op == 0x08 || op == 0x10 || op == 0x18 || op == 0x20 || op == 0x27 || op == 0x28 || op == 0x30 || op == 0x38 || op == 0x76
    || decide (0x90#8 ≤ op)

/-- Well-formed instructions. Every operand value of an implemented instruction is legal (R80); a TRAP term is the instruction
of a trapping opcode byte only (R79). -/
def Instr.wellFormed (i : Instr) : Bool :=
  match i with
  | .nop | .lxiB _ | .staxB | .inxB | .inrB | .dcrB | .mviB _ | .rlc | .dadB | .ldaxB | .dcxB | .inrC | .dcrC | .mviC _ | .rrc | .lxiD _ | .staxD
  | .inxD | .inrD | .dcrD | .mviD _ | .ral | .dadD | .ldaxD | .dcxD | .inrE | .dcrE | .mviE _ | .rar | .lxiH _ | .shld _ | .inxH | .inrH | .dcrH
  | .mviH _ | .dadH | .lhld _ | .dcxH | .inrL | .dcrL | .mviL _ | .cma | .lxiSP _ | .sta _ | .inxSP | .inrM | .dcrM | .mviM _ | .stc | .dadSP
  | .lda _ | .dcxSP | .inrA | .dcrA | .mviA _ | .cmc | .movBB | .movBC | .movBD | .movBE | .movBH | .movBL | .movBM | .movBA | .movCB | .movCC
  | .movCD | .movCE | .movCH | .movCL | .movCM | .movCA | .movDB | .movDC | .movDD | .movDE | .movDH | .movDL | .movDM | .movDA | .movEB | .movEC
  | .movED | .movEE | .movEH | .movEL | .movEM | .movEA | .movHB | .movHC | .movHD | .movHE | .movHH | .movHL | .movHM | .movHA | .movLB | .movLC
  | .movLD | .movLE | .movLH | .movLL | .movLM | .movLA | .movMB | .movMC | .movMD | .movME | .movMH | .movML | .movMA | .movAB | .movAC | .movAD
  | .movAE | .movAH | .movAL | .movAM | .movAA | .addB | .addC | .addD | .addE | .addH | .addL | .addM | .addA | .adcB | .adcC | .adcD | .adcE
  | .adcH | .adcL | .adcM | .adcA => true
  | .trap op => isTrapOpcode op

end Sys2Proof
end

