-- ==== Sys2Proof/Decode.lean ====
section
/-! DEFINITION. The decoder, written from the opcode map R77, and the encoder, written from the formats and codes of R71, R74
and R75. The two come from different tables of the spec, so that they agree is a statement worth proving. -/

namespace Sys2Proof

/-! ## The 256-entry table (R77, R112), one definition for each row of the map -/

/-- Opcodes 0x00 to 0x0F (R77). -/
def opcodeRow0 : List Entry :=
  [ .plain .nop, .imm16 .lxiB, .plain .staxB, .plain .inxB, .plain .inrB, .plain .dcrB, .imm8 .mviB, .plain .rlc, .trap,
    .plain .dadB, .plain .ldaxB, .plain .dcxB, .plain .inrC, .plain .dcrC, .imm8 .mviC, .plain .rrc ]

/-- Opcodes 0x10 to 0x1F (R77). -/
def opcodeRow1 : List Entry :=
  [ .trap, .imm16 .lxiD, .plain .staxD, .plain .inxD, .plain .inrD, .plain .dcrD, .imm8 .mviD, .plain .ral, .trap, .plain .dadD,
    .plain .ldaxD, .plain .dcxD, .plain .inrE, .plain .dcrE, .imm8 .mviE, .plain .rar ]

/-- Opcodes 0x20 to 0x2F (R77). -/
def opcodeRow2 : List Entry :=
  [ .trap, .imm16 .lxiH, .imm16 .shld, .plain .inxH, .plain .inrH, .plain .dcrH, .imm8 .mviH, .trap, .trap, .plain .dadH,
    .imm16 .lhld, .plain .dcxH, .plain .inrL, .plain .dcrL, .imm8 .mviL, .plain .cma ]

/-- Opcodes 0x30 to 0x3F (R77). -/
def opcodeRow3 : List Entry :=
  [ .trap, .imm16 .lxiSP, .imm16 .sta, .plain .inxSP, .plain .inrM, .plain .dcrM, .imm8 .mviM, .plain .stc, .trap, .plain .dadSP,
    .imm16 .lda, .plain .dcxSP, .plain .inrA, .plain .dcrA, .imm8 .mviA, .plain .cmc ]

/-- Opcodes 0x40 to 0x4F (R77). -/
def opcodeRow4 : List Entry :=
  [ .plain .movBB, .plain .movBC, .plain .movBD, .plain .movBE, .plain .movBH, .plain .movBL, .plain .movBM, .plain .movBA,
    .plain .movCB, .plain .movCC, .plain .movCD, .plain .movCE, .plain .movCH, .plain .movCL, .plain .movCM, .plain .movCA ]

/-- Opcodes 0x50 to 0x5F (R77). -/
def opcodeRow5 : List Entry :=
  [ .plain .movDB, .plain .movDC, .plain .movDD, .plain .movDE, .plain .movDH, .plain .movDL, .plain .movDM, .plain .movDA,
    .plain .movEB, .plain .movEC, .plain .movED, .plain .movEE, .plain .movEH, .plain .movEL, .plain .movEM, .plain .movEA ]

/-- Opcodes 0x60 to 0x6F (R77). -/
def opcodeRow6 : List Entry :=
  [ .plain .movHB, .plain .movHC, .plain .movHD, .plain .movHE, .plain .movHH, .plain .movHL, .plain .movHM, .plain .movHA,
    .plain .movLB, .plain .movLC, .plain .movLD, .plain .movLE, .plain .movLH, .plain .movLL, .plain .movLM, .plain .movLA ]

/-- Opcodes 0x70 to 0x7F (R77). -/
def opcodeRow7 : List Entry :=
  [ .plain .movMB, .plain .movMC, .plain .movMD, .plain .movME, .plain .movMH, .plain .movML, .trap, .plain .movMA, .plain .movAB,
    .plain .movAC, .plain .movAD, .plain .movAE, .plain .movAH, .plain .movAL, .plain .movAM, .plain .movAA ]

/-- Opcodes 0x80 to 0x8F (R77). -/
def opcodeRow8 : List Entry :=
  [ .plain .addB, .plain .addC, .plain .addD, .plain .addE, .plain .addH, .plain .addL, .plain .addM, .plain .addA, .plain .adcB,
    .plain .adcC, .plain .adcD, .plain .adcE, .plain .adcH, .plain .adcL, .plain .adcM, .plain .adcA ]

/-- A row of the map in which every opcode traps (R77, R79): the rows 0x9 to 0xF. -/
def opcodeRowTrap : List Entry := List.replicate 16 .trap

/-- The 256-entry table, opcode 0x00 first. -/
def opcodeTable : List Entry :=
  opcodeRow0 ++ opcodeRow1 ++ opcodeRow2 ++ opcodeRow3 ++ opcodeRow4 ++ opcodeRow5 ++ opcodeRow6 ++ opcodeRow7 ++ opcodeRow8
    ++ opcodeRowTrap ++ opcodeRowTrap ++ opcodeRowTrap ++ opcodeRowTrap ++ opcodeRowTrap ++ opcodeRowTrap ++ opcodeRowTrap

/-- Look the opcode byte up in the table (R112): nothing but the byte decides the entry (R76). -/
def decodeOpcode (op : Byte) : Entry := opcodeTable.getD op.toNat .trap

/-- How many bytes the dispatcher reads for an entry (R70); a trapping opcode is its opcode byte alone (R170). -/
def Entry.length (e : Entry) : Nat :=
  match e with
  | .plain _ => 1
  | .imm8 _ => 2
  | .imm16 _ => 3
  | .trap => 1

/-- The instruction an entry stands for, given its opcode byte and the two bytes after it. Bytes the entry does not take are
not looked at (R110); a 16-bit immediate has its low byte first (R73). -/
def Entry.instr (e : Entry) (op byte2 byte3 : Byte) : Instr :=
  match e with
  | .plain i => i
  | .imm8 f => f byte2
  | .imm16 f => f (pack byte3 byte2)
  | .trap => .trap op

/-- Decode the front of a list of bytes: the instruction and the bytes after it, or the name of what is missing (R70, R112). -/
def decode (bytes : List Byte) : Except DecodeError (Instr × List Byte) :=
  match bytes with
  | [] => .error .noOpcode
  | op :: rest =>
    match decodeOpcode op, rest with
    | .plain i, rest => .ok (i, rest)
    | .trap, rest => .ok (.trap op, rest)
    | .imm8 f, byte2 :: rest => .ok (f byte2, rest)
    | .imm16 f, byte2 :: byte3 :: rest => .ok (f (pack byte3 byte2), rest)
    | .imm8 _, [] => .error (.missingByte2 op)
    | .imm16 _, [] => .error (.missingByte2 op)
    | .imm16 _, [_] => .error (.missingByte3 op)

/-- The `n`-th byte of a table word, byte 0 holding the opcode (the table numbers bits from the first byte's least significant). -/
def tableByte (w n : Nat) : Byte := BitVec.ofNat 8 (w / 2 ^ (8 * n))

/-- The three bytes of an instruction word of `nbits` bits; every bit above `nbits` is 0. -/
def tableWordBytes (nbits w : Nat) : List Byte :=
  let v := w % 2 ^ nbits
  [tableByte v 0, tableByte v 1, tableByte v 2]

/-- What the decoder reads from an instruction whose bits are `w`. -/
def decodeTableWord (nbits w : Nat) : Option Instr :=
  match decode (tableWordBytes nbits w) with
  | .ok (i, _) => some i
  | .error _ => none

/-! ## The trapping opcodes by group (R171 to R193) -/

/-- The groups of trapping opcodes, one for each rule of the list R171 to R193. The names are labels: every one of them does the
same thing (R170). -/
inductive TrapGroup where
  /-- R171 -/ | sub
  /-- R172 -/ | sbb
  /-- R173 -/ | ana
  /-- R174 -/ | xra
  /-- R175 -/ | ora
  /-- R176 -/ | cmp
  /-- R177 -/ | immediate
  /-- R178 -/ | jump
  /-- R179 -/ | call
  /-- R180 -/ | ret
  /-- R181 -/ | rst
  /-- R182 -/ | pchl
  /-- R183 -/ | push
  /-- R184 -/ | pop
  /-- R185 -/ | inOut
  /-- R186 -/ | xthlSphl
  /-- R187 -/ | xchg
  /-- R188 -/ | hlt
  /-- R189 -/ | daa
  /-- R190 -/ | ei
  /-- R191 -/ | di
  /-- R192 -/ | rimSim
  /-- R193 -/ | unassigned
deriving DecidableEq, Repr

/-- The group of a trapping opcode by the bit patterns and numbers of R171 to R193; none for an implemented opcode. -/
def trapGroup (op : Byte) : Option TrapGroup :=
  let hi5 := op &&& 0xF8
  let cond := op &&& 0xC7
  let pairs := op &&& 0xCF
  if hi5 = 0x90 then some .sub
  else if hi5 = 0x98 then some .sbb
  else if hi5 = 0xA0 then some .ana
  else if hi5 = 0xA8 then some .xra
  else if hi5 = 0xB0 then some .ora
  else if hi5 = 0xB8 then some .cmp
  else if cond = 0xC6 then some .immediate
  else if op = 0xC3 || cond = 0xC2 then some .jump
  else if op = 0xCD || cond = 0xC4 then some .call
  else if op = 0xC9 || cond = 0xC0 then some .ret
  else if cond = 0xC7 then some .rst
  else if op = 0xE9 then some .pchl
  else if pairs = 0xC5 then some .push
  else if pairs = 0xC1 then some .pop
  else if op = 0xDB || op = 0xD3 then some .inOut
  else if op = 0xE3 || op = 0xF9 then some .xthlSphl
  else if op = 0xEB then some .xchg
  else if op = 0x76 then some .hlt
  else if op = 0x27 then some .daa
  else if op = 0xFB then some .ei
  else if op = 0xF3 then some .di
  else if op = 0x20 || op = 0x30 then some .rimSim
  else if [0x08, 0x10, 0x18, 0x28, 0x38, 0xCB, 0xD9, 0xDD, 0xED, 0xFD].contains op then some .unassigned
  else none

/-! ## The encoder (R71) -/

/-- Register codes (R74). -/
def Reg.code (r : Reg) : BitVec 3 :=
  match r with
  | .b => 0b000
  | .c => 0b001
  | .d => 0b010
  | .e => 0b011
  | .h => 0b100
  | .l => 0b101
  | .a => 0b111

/-- Operand codes: code 110 is M (R74). -/
def Operand.code (o : Operand) : BitVec 3 :=
  match o with
  | .reg r => r.code
  | .m => 0b110

/-- Pair codes (R75). -/
def Pair.code (p : Pair) : BitVec 2 :=
  match p with
  | .bc => 0b00
  | .de => 0b01
  | .hl => 0b10
  | .sp => 0b11

/-- Format RP, and the opcode byte of RP16: `00 pp fn` (R71). -/
def formatRP (p : Pair) (fn : BitVec 4) : Byte := 0b00#2 ++ p.code ++ fn

/-- Format DDD, and the opcode byte of DDD8: `00 ddd fn` (R71). -/
def formatDDD (dst : Operand) (fn : BitVec 3) : Byte := 0b00#2 ++ dst.code ++ fn

/-- Format MOV: `01 ddd sss` (R71). -/
def formatMOV (dst src : Operand) : Byte := 0b01#2 ++ dst.code ++ src.code

/-- Format ALU: `10 fn sss` (R71). -/
def formatALU (fn : BitVec 3) (src : Operand) : Byte := 0b10#2 ++ fn ++ src.code

/-- A 16-bit immediate as it stands in the instruction: the low byte in byte 2, the high byte in byte 3 (R73). -/
def imm16Bytes (v : Word) : List Byte := [(unpack v).2, (unpack v).1]

/-- The fields of an instruction, as the table's row names them (R78, R83). -/
def Instr.form (i : Instr) : Form :=
  match i with
  | .nop => .nop
  | .lxiB d16 => .lxi .bc d16
  | .staxB => .stax .bc
  | .inxB => .inx .bc
  | .inrB => .inr (.reg .b)
  | .dcrB => .dcr (.reg .b)
  | .mviB d8 => .mvi (.reg .b) d8
  | .rlc => .rlc
  | .dadB => .dad .bc
  | .ldaxB => .ldax .bc
  | .dcxB => .dcx .bc
  | .inrC => .inr (.reg .c)
  | .dcrC => .dcr (.reg .c)
  | .mviC d8 => .mvi (.reg .c) d8
  | .rrc => .rrc
  | .lxiD d16 => .lxi .de d16
  | .staxD => .stax .de
  | .inxD => .inx .de
  | .inrD => .inr (.reg .d)
  | .dcrD => .dcr (.reg .d)
  | .mviD d8 => .mvi (.reg .d) d8
  | .ral => .ral
  | .dadD => .dad .de
  | .ldaxD => .ldax .de
  | .dcxD => .dcx .de
  | .inrE => .inr (.reg .e)
  | .dcrE => .dcr (.reg .e)
  | .mviE d8 => .mvi (.reg .e) d8
  | .rar => .rar
  | .lxiH d16 => .lxi .hl d16
  | .shld addr => .shld addr
  | .inxH => .inx .hl
  | .inrH => .inr (.reg .h)
  | .dcrH => .dcr (.reg .h)
  | .mviH d8 => .mvi (.reg .h) d8
  | .dadH => .dad .hl
  | .lhld addr => .lhld addr
  | .dcxH => .dcx .hl
  | .inrL => .inr (.reg .l)
  | .dcrL => .dcr (.reg .l)
  | .mviL d8 => .mvi (.reg .l) d8
  | .cma => .cma
  | .lxiSP d16 => .lxi .sp d16
  | .sta addr => .sta addr
  | .inxSP => .inx .sp
  | .inrM => .inr .m
  | .dcrM => .dcr .m
  | .mviM d8 => .mvi .m d8
  | .stc => .stc
  | .dadSP => .dad .sp
  | .lda addr => .lda addr
  | .dcxSP => .dcx .sp
  | .inrA => .inr (.reg .a)
  | .dcrA => .dcr (.reg .a)
  | .mviA d8 => .mvi (.reg .a) d8
  | .cmc => .cmc
  | .movBB => .mov (.reg .b) (.reg .b)
  | .movBC => .mov (.reg .b) (.reg .c)
  | .movBD => .mov (.reg .b) (.reg .d)
  | .movBE => .mov (.reg .b) (.reg .e)
  | .movBH => .mov (.reg .b) (.reg .h)
  | .movBL => .mov (.reg .b) (.reg .l)
  | .movBM => .mov (.reg .b) .m
  | .movBA => .mov (.reg .b) (.reg .a)
  | .movCB => .mov (.reg .c) (.reg .b)
  | .movCC => .mov (.reg .c) (.reg .c)
  | .movCD => .mov (.reg .c) (.reg .d)
  | .movCE => .mov (.reg .c) (.reg .e)
  | .movCH => .mov (.reg .c) (.reg .h)
  | .movCL => .mov (.reg .c) (.reg .l)
  | .movCM => .mov (.reg .c) .m
  | .movCA => .mov (.reg .c) (.reg .a)
  | .movDB => .mov (.reg .d) (.reg .b)
  | .movDC => .mov (.reg .d) (.reg .c)
  | .movDD => .mov (.reg .d) (.reg .d)
  | .movDE => .mov (.reg .d) (.reg .e)
  | .movDH => .mov (.reg .d) (.reg .h)
  | .movDL => .mov (.reg .d) (.reg .l)
  | .movDM => .mov (.reg .d) .m
  | .movDA => .mov (.reg .d) (.reg .a)
  | .movEB => .mov (.reg .e) (.reg .b)
  | .movEC => .mov (.reg .e) (.reg .c)
  | .movED => .mov (.reg .e) (.reg .d)
  | .movEE => .mov (.reg .e) (.reg .e)
  | .movEH => .mov (.reg .e) (.reg .h)
  | .movEL => .mov (.reg .e) (.reg .l)
  | .movEM => .mov (.reg .e) .m
  | .movEA => .mov (.reg .e) (.reg .a)
  | .movHB => .mov (.reg .h) (.reg .b)
  | .movHC => .mov (.reg .h) (.reg .c)
  | .movHD => .mov (.reg .h) (.reg .d)
  | .movHE => .mov (.reg .h) (.reg .e)
  | .movHH => .mov (.reg .h) (.reg .h)
  | .movHL => .mov (.reg .h) (.reg .l)
  | .movHM => .mov (.reg .h) .m
  | .movHA => .mov (.reg .h) (.reg .a)
  | .movLB => .mov (.reg .l) (.reg .b)
  | .movLC => .mov (.reg .l) (.reg .c)
  | .movLD => .mov (.reg .l) (.reg .d)
  | .movLE => .mov (.reg .l) (.reg .e)
  | .movLH => .mov (.reg .l) (.reg .h)
  | .movLL => .mov (.reg .l) (.reg .l)
  | .movLM => .mov (.reg .l) .m
  | .movLA => .mov (.reg .l) (.reg .a)
  | .movMB => .mov .m (.reg .b)
  | .movMC => .mov .m (.reg .c)
  | .movMD => .mov .m (.reg .d)
  | .movME => .mov .m (.reg .e)
  | .movMH => .mov .m (.reg .h)
  | .movML => .mov .m (.reg .l)
  | .movMA => .mov .m (.reg .a)
  | .movAB => .mov (.reg .a) (.reg .b)
  | .movAC => .mov (.reg .a) (.reg .c)
  | .movAD => .mov (.reg .a) (.reg .d)
  | .movAE => .mov (.reg .a) (.reg .e)
  | .movAH => .mov (.reg .a) (.reg .h)
  | .movAL => .mov (.reg .a) (.reg .l)
  | .movAM => .mov (.reg .a) .m
  | .movAA => .mov (.reg .a) (.reg .a)
  | .addB => .add (.reg .b)
  | .addC => .add (.reg .c)
  | .addD => .add (.reg .d)
  | .addE => .add (.reg .e)
  | .addH => .add (.reg .h)
  | .addL => .add (.reg .l)
  | .addM => .add .m
  | .addA => .add (.reg .a)
  | .adcB => .adc (.reg .b)
  | .adcC => .adc (.reg .c)
  | .adcD => .adc (.reg .d)
  | .adcE => .adc (.reg .e)
  | .adcH => .adc (.reg .h)
  | .adcL => .adc (.reg .l)
  | .adcM => .adc .m
  | .adcA => .adc (.reg .a)
  | .trap op => .trap op

/-- The bytes of a form, by the formats of R71. A trapping opcode is its opcode byte alone (R170). -/
def Form.bytes (f : Form) : List Byte :=
  match f with
  | .nop => [0x00]
  | .mov dst src => [formatMOV dst src]
  | .mvi dst d8 => [formatDDD dst 0b110, d8]
  | .lxi rp d16 => formatRP rp 0b0001 :: imm16Bytes d16
  | .stax rp => [formatRP rp 0b0010]
  | .ldax rp => [formatRP rp 0b1010]
  | .sta addr => 0x32 :: imm16Bytes addr
  | .lda addr => 0x3A :: imm16Bytes addr
  | .shld addr => 0x22 :: imm16Bytes addr
  | .lhld addr => 0x2A :: imm16Bytes addr
  | .inr dst => [formatDDD dst 0b100]
  | .dcr dst => [formatDDD dst 0b101]
  | .inx rp => [formatRP rp 0b0011]
  | .dcx rp => [formatRP rp 0b1011]
  | .dad rp => [formatRP rp 0b1001]
  | .add src => [formatALU 0b000 src]
  | .adc src => [formatALU 0b001 src]
  | .rlc => [0x07]
  | .rrc => [0x0F]
  | .ral => [0x17]
  | .rar => [0x1F]
  | .cma => [0x2F]
  | .stc => [0x37]
  | .cmc => [0x3F]
  | .trap op => [op]

/-- The bytes of a well-formed instruction. -/
def encode (i : Instr) : List Byte := i.form.bytes

end Sys2Proof
end

