-- ==== Sys2Proof/Machine/State.lean ====
section
/-! DEFINITION. The machine's state as plain data, its reset value, and the reasons a step can stop.

The fields are the list of R20, every one of them and no other (R36). -/

namespace Sys2Proof.Machine

/-- The seven 8-bit general registers (R21). -/
structure Regs where
  a : Byte
  b : Byte
  c : Byte
  d : Byte
  e : Byte
  h : Byte
  l : Byte
deriving DecidableEq, Repr

/-- The five condition flags (R26). -/
structure Flags where
  z  : Bool
  s  : Bool
  p  : Bool
  cy : Bool
  ac : Bool
deriving DecidableEq, Repr

/-- The 65536-byte memory (R34, R50): the listed bytes, addresses strictly rising; `Memory.unlistedByte` is what an unlisted
address reads as (log 1). -/
abbrev Memory := List Host.Cell

/-- The CPU state and the memory it refers to (R20, R34). -/
structure State where
  regs       : Regs
  sp         : Word
  pc         : Word
  flags      : Flags
  /-- INTE: inert, no rule reads or writes it (R33). -/
  inte       : Bool
  /-- TRAPPED: while it is set no step is enabled (R35, R117). -/
  trapped    : Bool
  /-- TRAP_OPCODE (R35, R203). -/
  trapOpcode : Byte
  /-- TRAP_PC (R35, R203). -/
  trapPc     : Word
  mem        : Memory
deriving DecidableEq, Repr

/-- The faults of the document's taxonomy that are no trap (R200). The third name, UnimplementedOpcode, is the trap: a next
state with TRAPPED set (R203; log 3), and the `FaultKind` that the TRAP interface reports (HostPort.lean). -/
inductive Fault where
  /-- Never raised: every address wraps (R206). Safe: it is here so that a statement can say so (log 10). -/
  | memoryAccessFault
  /-- Never raised: every value is written at its width (R207). Safe: it is here so that a statement can say so (log 10). -/
  | invariantViolation
deriving DecidableEq, Repr

/-- Why a step is turned away. -/
inductive Refusal where
  /-- An instruction with no meaning in this model; no arm of `exec` answers it. Safe. -/
  | notModelled (mnemonic : String)
  /-- `step` answers it while TRAPPED = 1: no step is enabled (R117, R204; log 3). Safe: the spec gives no successor state. -/
  | trappedNoStep
deriving DecidableEq, Repr

/-- What a step or an instruction answers. -/
abbrev Result := Host.Outcome State Fault Refusal

/-- The machine after reset (R40, R220): every field zero, and no byte of memory listed. TRAP_OPCODE and TRAP_PC are zero by
choice (log 2); memory is the host's (R222), so what an unlisted byte reads as is a choice too (log 1). -/
def State.reset : State where
  regs := { a := 0x00, b := 0x00, c := 0x00, d := 0x00, e := 0x00, h := 0x00, l := 0x00 }
  sp := 0x0000
  pc := 0x0000
  flags := { z := false, s := false, p := false, cy := false, ac := false }
  inte := false
  trapped := false
  trapOpcode := 0x00
  trapPc := 0x0000
  mem := []

end Sys2Proof.Machine
end

