-- ==== Sys2Proof/Machine/Ops.lean ====
section
/-! DEFINITION. The named operations over memory, over the registers and the flags as fields, the advance of the program
counter, and taking the trap. There is no return from the trap (R204): only the host's reset leaves it (HostPort.lean). -/

namespace Sys2Proof.Machine

/-! ## Memory (20_memory.md) -/

/-- What an address that no cell lists reads as. INITIAL_MEMORY is the host's and open (R222): DESIGN CHOICE, unsafe (log 1). -/
def Memory.unlistedByte : Byte := 0x00

/-- The byte listed for address `k`, the first if there are several. -/
def Memory.lookup (m : Memory) (k : Nat) : Byte :=
  match m with
  | [] => Memory.unlistedByte
  | (j, v) :: rest => if j = k then v else Memory.lookup rest k

/-- List `v` for address `k`, before the first greater address. -/
def Memory.insertCell (m : Memory) (k : Nat) (v : Byte) : Memory :=
  match m with
  | [] => [(k, v)]
  | (j, w) :: rest => if k < j then (k, v) :: (j, w) :: rest else (j, w) :: Memory.insertCell rest k v

/-- Drop every cell of address `k`. -/
def Memory.erase (m : Memory) (k : Nat) : Memory := m.filter fun cell => cell.1 != k

/-- Make address `k` read as `v`, keeping the canonical form. -/
def Memory.store (m : Memory) (k : Nat) (v : Byte) : Memory :=
  if v = Memory.unlistedByte then m.erase k else (m.erase k).insertCell k v

/-- The canonical form: addresses strictly rising and inside the space (R50), no cell equal to what an unlisted address reads
as. Two memories in this form that read alike are the same list. -/
abbrev Memory.wf (m : Memory) : Prop :=
  m.Pairwise (fun x y => x.1 < y.1) ∧ ∀ cell ∈ m, cell.1 < 65536 ∧ cell.2 ≠ Memory.unlistedByte

/-- `MemRead(addr, 1)` (R52). -/
def State.readByte (s : State) (addr : Word) : Byte := s.mem.lookup addr.toNat

/-- `MemWrite(addr, 1, v)` (R53). -/
def State.writeByte (s : State) (addr : Word) (v : Byte) : State := { s with mem := s.mem.store addr.toNat v }

/-- `MemRead(addr, 2)`: low byte at `addr`, high byte at `addr + 1` modulo 65536 (R54). -/
def State.readWord (s : State) (addr : Word) : Word := pack (s.readByte (addr + 1)) (s.readByte addr)

/-- `MemWrite(addr, 2, v)`: low byte to `addr`, then high byte to `addr + 1` modulo 65536 (R55). -/
def State.writeWord (s : State) (addr v : Word) : State :=
  (s.writeByte addr (unpack v).2).writeByte (addr + 1) (unpack v).1

/-! ## The program counter (R25, R114) -/

/-- `pc <- (pc + length) mod 65536` (R114). -/
def State.advance (s : State) (length : Word) : State := { s with pc := s.pc + length }

/-- The end of an instruction that does not trap: advance by its length (R114). Execute never fails (R113). -/
def State.retire (s : State) (length : Word) : Result := .next (s.advance length)

/-! ## Flags as fields -/

/-- Write all five flags. -/
def State.writeFlags (s : State) (f : Flags) : State := { s with flags := f }

/-- Write CY and no other flag, as the rotates, STC and CMC do (R167). -/
def State.setCarry (s : State) (cy : Bool) : State := { s with flags := { s.flags with cy := cy } }

/-! ## The trap (R203) -/

/-- Trap entry for the opcode `op` at the program counter: the latch and the two recorded values are written, and nothing else
changes; in particular the program counter stays at the opcode (R203). -/
def State.takeTrap (s : State) (op : Byte) : State :=
  { s with trapped := true, trapOpcode := op, trapPc := s.pc }

end Sys2Proof.Machine
end

