-- ==== Sys2Proof/Machine/Flags.lean ====
section
/-! DEFINITION. The flag policy unit (section 2 of 40_functional_units.md) and the flags byte (R31). -/

namespace Sys2Proof.Machine

/-- The affected-flags mask: five request bits and the two value bits (R96). It is made afresh for each operation and is no
state (R29). -/
structure FlagMask where
  z     : Bool
  s     : Bool
  p     : Bool
  cy    : Bool
  ac    : Bool
  cyVal : Bool
  acVal : Bool
deriving DecidableEq, Repr

/-- What INR and DCR request: Z, S, P and AC (R103). -/
def FlagMask.zspac (ac : Bool) : FlagMask :=
  { z := true, s := true, p := true, cy := false, ac := true, cyVal := false, acVal := ac }

/-- What DAD requests: CY alone (R103). -/
def FlagMask.cyOnly (cy : Bool) : FlagMask :=
  { z := false, s := false, p := false, cy := true, ac := false, cyVal := cy, acVal := false }

/-- What ADD and ADC request: all five (R103). -/
def FlagMask.all (cy ac : Bool) : FlagMask :=
  { z := true, s := true, p := true, cy := true, ac := true, cyVal := cy, acVal := ac }

/-- How many of the 16 bits are 1. -/
def onesCount (v : Word) : Nat := ((List.range 16).filter fun i => v.getLsbD i).length

/-- `parityEven(v)`: the number of 1 bits of the full 16-bit value is even (R99). -/
def parityEven (v : Word) : Bool := onesCount v % 2 == 0

/-- `applyFlags(mask, value)` on the five flags: a requested flag gets its value, an unrequested one keeps the value it had
(R97 to R102). S is bit 7 of the 8-bit view (R98). -/
def Flags.apply (f : Flags) (mask : FlagMask) (value : Word) : Flags where
  z := if mask.z then value == 0 else f.z
  s := if mask.s then value.getLsbD 7 else f.s
  p := if mask.p then parityEven value else f.p
  cy := if mask.cy then mask.cyVal else f.cy
  ac := if mask.ac then mask.acVal else f.ac

/-- `applyFlags(mask, value)` on the state: the flags and nothing else (R96). -/
def State.applyFlags (s : State) (mask : FlagMask) (value : Word) : State := s.writeFlags (s.flags.apply mask value)

/-- The flags byte as outside tooling sees it: `0b000 ## AC ## CY ## P ## S ## Z` (R31); bits 5 to 7 read 0 (R32). -/
def Flags.toByte (f : Flags) : Byte :=
  0b000#3 ++ BitVec.ofBool f.ac ++ BitVec.ofBool f.cy ++ BitVec.ofBool f.p ++ BitVec.ofBool f.s ++ BitVec.ofBool f.z

end Sys2Proof.Machine
end

