-- ==== Sys2Proof/Machine/Operands.lean ====
section
/-! DEFINITION. What a register code, an operand code and a pair code select (R74, R75), read and written. -/

namespace Sys2Proof.Machine

/-- The register a code selects, read (R74). -/
def Regs.read (g : Regs) (r : Reg) : Byte :=
  match r with
  | .b => g.b
  | .c => g.c
  | .d => g.d
  | .e => g.e
  | .h => g.h
  | .l => g.l
  | .a => g.a

/-- The register a code selects, written (R74). -/
def Regs.write (g : Regs) (r : Reg) (v : Byte) : Regs :=
  match r with
  | .b => { g with b := v }
  | .c => { g with c := v }
  | .d => { g with d := v }
  | .e => { g with e := v }
  | .h => { g with h := v }
  | .l => { g with l := v }
  | .a => { g with a := v }

/-- `x[r] <- v` for a register. -/
def State.writeReg (s : State) (r : Reg) (v : Byte) : State := { s with regs := s.regs.write r v }

/-- `rp[p]`: BC, DE and HL are packed from their registers, SP is one register (R23, R24, R75). -/
def State.readPair (s : State) (p : Pair) : Word :=
  match p with
  | .bc => pack s.regs.b s.regs.c
  | .de => pack s.regs.d s.regs.e
  | .hl => pack s.regs.h s.regs.l
  | .sp => s.sp

/-- `rp[p] <- v`: the high byte to the first-named register, the low byte to the second; SP whole (R23, R24, R75). -/
def State.writePair (s : State) (p : Pair) (v : Word) : State :=
  match p with
  | .bc => { s with regs := { s.regs with b := (unpack v).1, c := (unpack v).2 } }
  | .de => { s with regs := { s.regs with d := (unpack v).1, e := (unpack v).2 } }
  | .hl => { s with regs := { s.regs with h := (unpack v).1, l := (unpack v).2 } }
  | .sp => { s with sp := v }

/-- `x[o]`: a register, or the byte at HL for M (R74). -/
def State.readOperand (s : State) (o : Operand) : Byte :=
  match o with
  | .reg r => s.regs.read r
  | .m => s.readByte (s.readPair .hl)

/-- `x[o] <- v`: a register, or the byte at HL for M, HL as it is before the write (R74). -/
def State.writeOperand (s : State) (o : Operand) (v : Byte) : State :=
  match o with
  | .reg r => s.writeReg r v
  | .m => s.writeByte (s.readPair .hl) v

end Sys2Proof.Machine
end

