-- ==== Sys2Proof/Machine/Arithmetic.lean ====
section
/-! DEFINITION. The arithmetic instructions (43_arithmetic.md). All compute with the adder; none can fail (R140). Every
instruction of this file is 1 byte long. -/

namespace Sys2Proof.Machine

/-! ## Shared operations -/

/-- Add `delta` to an 8-bit operand in place and write Z, S, P and AC, keeping CY: the body of INR and DCR (R141 to R144). -/
def bump (delta : Byte) (o : Operand) (s : State) : Result :=
  let sum := addWithCarry (s.readOperand o) delta false
  ((s.writeOperand o sum.result).applyFlags (FlagMask.zspac sum.auxCarryOut) (sum.result.setWidth 16)).retire 1

/-- INR: add 1 (R141, R142). -/
def increment (o : Operand) (s : State) : Result := bump 0x01 o s

/-- DCR: add the two's complement of 1 (R95, R143, R144). -/
def decrement (o : Operand) (s : State) : Result := bump (negate 1) o s

/-- Add `delta` to a pair in place; no flag (R145, R146). -/
def bumpPair (delta : Word) (rp : Pair) (s : State) : Result :=
  (s.writePair rp (addWithCarry (s.readPair rp) delta false).result).retire 1

/-- INX: add 1 (R145). -/
def incrementPair (rp : Pair) (s : State) : Result := bumpPair 0x0001 rp s

/-- DCX: add the two's complement of 1 (R95, R146). -/
def decrementPair (rp : Pair) (s : State) : Result := bumpPair (negate 1) rp s

/-- DAD: add a pair into HL and write CY only (R147). -/
def doubleAdd (rp : Pair) (s : State) : Result :=
  let sum := addWithCarry (s.readPair .hl) (s.readPair rp) false
  ((s.writePair .hl sum.result).applyFlags (FlagMask.cyOnly sum.carryOut) sum.result).retire 1

/-- ADD and ADC: add an operand and a carry-in to A and write all five flags (R150 to R154). -/
def addToA (o : Operand) (cin : Bool) (s : State) : Result :=
  let sum := addWithCarry s.regs.a (s.readOperand o) cin
  ((s.writeReg .a sum.result).applyFlags (FlagMask.all sum.carryOut sum.auxCarryOut) (sum.result.setWidth 16)).retire 1

/-! ## INR and DCR -/

/-- INR B, opcode 0x04 (R141). -/
def execInrB (s : State) : Result := increment (.reg .b) s

/-- INR C, opcode 0x0C (R141). -/
def execInrC (s : State) : Result := increment (.reg .c) s

/-- INR D, opcode 0x14 (R141). -/
def execInrD (s : State) : Result := increment (.reg .d) s

/-- INR E, opcode 0x1C (R141). -/
def execInrE (s : State) : Result := increment (.reg .e) s

/-- INR H, opcode 0x24 (R141). -/
def execInrH (s : State) : Result := increment (.reg .h) s

/-- INR L, opcode 0x2C (R141). -/
def execInrL (s : State) : Result := increment (.reg .l) s

/-- INR M, opcode 0x34 (R142). -/
def execInrM (s : State) : Result := increment .m s

/-- INR A, opcode 0x3C (R141). -/
def execInrA (s : State) : Result := increment (.reg .a) s

/-- DCR B, opcode 0x05 (R143). -/
def execDcrB (s : State) : Result := decrement (.reg .b) s

/-- DCR C, opcode 0x0D (R143). -/
def execDcrC (s : State) : Result := decrement (.reg .c) s

/-- DCR D, opcode 0x15 (R143). -/
def execDcrD (s : State) : Result := decrement (.reg .d) s

/-- DCR E, opcode 0x1D (R143). -/
def execDcrE (s : State) : Result := decrement (.reg .e) s

/-- DCR H, opcode 0x25 (R143). -/
def execDcrH (s : State) : Result := decrement (.reg .h) s

/-- DCR L, opcode 0x2D (R143). -/
def execDcrL (s : State) : Result := decrement (.reg .l) s

/-- DCR M, opcode 0x35 (R144). -/
def execDcrM (s : State) : Result := decrement .m s

/-- DCR A, opcode 0x3D (R143). -/
def execDcrA (s : State) : Result := decrement (.reg .a) s

/-! ## INX, DCX and DAD -/

/-- INX B, opcode 0x03 (R145). -/
def execInxB (s : State) : Result := incrementPair .bc s

/-- INX D, opcode 0x13 (R145). -/
def execInxD (s : State) : Result := incrementPair .de s

/-- INX H, opcode 0x23 (R145). -/
def execInxH (s : State) : Result := incrementPair .hl s

/-- INX SP, opcode 0x33 (R145). -/
def execInxSP (s : State) : Result := incrementPair .sp s

/-- DCX B, opcode 0x0B (R146). -/
def execDcxB (s : State) : Result := decrementPair .bc s

/-- DCX D, opcode 0x1B (R146). -/
def execDcxD (s : State) : Result := decrementPair .de s

/-- DCX H, opcode 0x2B (R146). -/
def execDcxH (s : State) : Result := decrementPair .hl s

/-- DCX SP, opcode 0x3B (R146). -/
def execDcxSP (s : State) : Result := decrementPair .sp s

/-- DAD B, opcode 0x09 (R147). -/
def execDadB (s : State) : Result := doubleAdd .bc s

/-- DAD D, opcode 0x19 (R147). -/
def execDadD (s : State) : Result := doubleAdd .de s

/-- DAD H, opcode 0x29 (R147). -/
def execDadH (s : State) : Result := doubleAdd .hl s

/-- DAD SP, opcode 0x39 (R147). -/
def execDadSP (s : State) : Result := doubleAdd .sp s

/-! ## ADD and ADC -/

/-- ADD B, opcode 0x80 (R150). -/
def execAddB (s : State) : Result := addToA (.reg .b) false s

/-- ADD C, opcode 0x81 (R150). -/
def execAddC (s : State) : Result := addToA (.reg .c) false s

/-- ADD D, opcode 0x82 (R150). -/
def execAddD (s : State) : Result := addToA (.reg .d) false s

/-- ADD E, opcode 0x83 (R150). -/
def execAddE (s : State) : Result := addToA (.reg .e) false s

/-- ADD H, opcode 0x84 (R150). -/
def execAddH (s : State) : Result := addToA (.reg .h) false s

/-- ADD L, opcode 0x85 (R150). -/
def execAddL (s : State) : Result := addToA (.reg .l) false s

/-- ADD M, opcode 0x86 (R151). -/
def execAddM (s : State) : Result := addToA .m false s

/-- ADD A, opcode 0x87 (R150). -/
def execAddA (s : State) : Result := addToA (.reg .a) false s

/-- ADC B, opcode 0x88 (R153). -/
def execAdcB (s : State) : Result := addToA (.reg .b) s.flags.cy s

/-- ADC C, opcode 0x89 (R153). -/
def execAdcC (s : State) : Result := addToA (.reg .c) s.flags.cy s

/-- ADC D, opcode 0x8A (R153). -/
def execAdcD (s : State) : Result := addToA (.reg .d) s.flags.cy s

/-- ADC E, opcode 0x8B (R153). -/
def execAdcE (s : State) : Result := addToA (.reg .e) s.flags.cy s

/-- ADC H, opcode 0x8C (R153). -/
def execAdcH (s : State) : Result := addToA (.reg .h) s.flags.cy s

/-- ADC L, opcode 0x8D (R153). -/
def execAdcL (s : State) : Result := addToA (.reg .l) s.flags.cy s

/-- ADC M, opcode 0x8E (R154). -/
def execAdcM (s : State) : Result := addToA .m s.flags.cy s

/-- ADC A, opcode 0x8F (R153). -/
def execAdcA (s : State) : Result := addToA (.reg .a) s.flags.cy s

end Sys2Proof.Machine
end

