-- ==== Sys2Proof/Machine/Control.lean ====
section
/-! DEFINITION. NOP (41_dispatcher.md) and the trapping opcodes (45_unimplemented.md). -/

namespace Sys2Proof.Machine

/-- NOP, opcode 0x00: nothing but the advance (R116). -/
def execNop (s : State) : Result := s.retire 1

/-- TRAP: any of the 121 trapping opcodes raises UnimplementedOpcode(op, pc) and does not advance (R170, R203). -/
def execTrap (op : Byte) (s : State) : Result := .next (s.takeTrap op)

end Sys2Proof.Machine
end

