-- ==== Sys2Proof/Machine/DataTransfer.lean ====
section
/-! DEFINITION. The data-transfer instructions (42_data_transfer.md). No instruction of this file writes a flag (R120). -/

namespace Sys2Proof.Machine

/-! ## Shared operations -/

/-- MOV: `x[dst] <- x[src]`, 1 byte (R121 to R123). -/
def move (dst src : Operand) (s : State) : Result := (s.writeOperand dst (s.readOperand src)).retire 1

/-- MVI: `x[dst] <- d8`, 2 bytes (R125, R126). -/
def moveImmediate (dst : Operand) (d8 : Byte) (s : State) : Result := (s.writeOperand dst d8).retire 2

/-- LXI: `rp <- d16`, 3 bytes (R127). -/
def loadPair (rp : Pair) (d16 : Word) (s : State) : Result := (s.writePair rp d16).retire 3

/-- STAX: `MemWrite(rp, 1, A)`, 1 byte (R128). -/
def storeIndirect (rp : Pair) (s : State) : Result := (s.writeByte (s.readPair rp) s.regs.a).retire 1

/-- LDAX: `A <- MemRead(rp, 1)`, 1 byte (R129). -/
def loadIndirect (rp : Pair) (s : State) : Result := (s.writeReg .a (s.readByte (s.readPair rp))).retire 1

/-! ## MOV -/

/-- MOV B,B, opcode 0x40 (R121). -/
def execMovBB (s : State) : Result := move (.reg .b) (.reg .b) s

/-- MOV B,C, opcode 0x41 (R121). -/
def execMovBC (s : State) : Result := move (.reg .b) (.reg .c) s

/-- MOV B,D, opcode 0x42 (R121). -/
def execMovBD (s : State) : Result := move (.reg .b) (.reg .d) s

/-- MOV B,E, opcode 0x43 (R121). -/
def execMovBE (s : State) : Result := move (.reg .b) (.reg .e) s

/-- MOV B,H, opcode 0x44 (R121). -/
def execMovBH (s : State) : Result := move (.reg .b) (.reg .h) s

/-- MOV B,L, opcode 0x45 (R121). -/
def execMovBL (s : State) : Result := move (.reg .b) (.reg .l) s

/-- MOV B,M, opcode 0x46 (R122). -/
def execMovBM (s : State) : Result := move (.reg .b) .m s

/-- MOV B,A, opcode 0x47 (R121). -/
def execMovBA (s : State) : Result := move (.reg .b) (.reg .a) s

/-- MOV C,B, opcode 0x48 (R121). -/
def execMovCB (s : State) : Result := move (.reg .c) (.reg .b) s

/-- MOV C,C, opcode 0x49 (R121). -/
def execMovCC (s : State) : Result := move (.reg .c) (.reg .c) s

/-- MOV C,D, opcode 0x4A (R121). -/
def execMovCD (s : State) : Result := move (.reg .c) (.reg .d) s

/-- MOV C,E, opcode 0x4B (R121). -/
def execMovCE (s : State) : Result := move (.reg .c) (.reg .e) s

/-- MOV C,H, opcode 0x4C (R121). -/
def execMovCH (s : State) : Result := move (.reg .c) (.reg .h) s

/-- MOV C,L, opcode 0x4D (R121). -/
def execMovCL (s : State) : Result := move (.reg .c) (.reg .l) s

/-- MOV C,M, opcode 0x4E (R122). -/
def execMovCM (s : State) : Result := move (.reg .c) .m s

/-- MOV C,A, opcode 0x4F (R121). -/
def execMovCA (s : State) : Result := move (.reg .c) (.reg .a) s

/-- MOV D,B, opcode 0x50 (R121). -/
def execMovDB (s : State) : Result := move (.reg .d) (.reg .b) s

/-- MOV D,C, opcode 0x51 (R121). -/
def execMovDC (s : State) : Result := move (.reg .d) (.reg .c) s

/-- MOV D,D, opcode 0x52 (R121). -/
def execMovDD (s : State) : Result := move (.reg .d) (.reg .d) s

/-- MOV D,E, opcode 0x53 (R121). -/
def execMovDE (s : State) : Result := move (.reg .d) (.reg .e) s

/-- MOV D,H, opcode 0x54 (R121). -/
def execMovDH (s : State) : Result := move (.reg .d) (.reg .h) s

/-- MOV D,L, opcode 0x55 (R121). -/
def execMovDL (s : State) : Result := move (.reg .d) (.reg .l) s

/-- MOV D,M, opcode 0x56 (R122). -/
def execMovDM (s : State) : Result := move (.reg .d) .m s

/-- MOV D,A, opcode 0x57 (R121). -/
def execMovDA (s : State) : Result := move (.reg .d) (.reg .a) s

/-- MOV E,B, opcode 0x58 (R121). -/
def execMovEB (s : State) : Result := move (.reg .e) (.reg .b) s

/-- MOV E,C, opcode 0x59 (R121). -/
def execMovEC (s : State) : Result := move (.reg .e) (.reg .c) s

/-- MOV E,D, opcode 0x5A (R121). -/
def execMovED (s : State) : Result := move (.reg .e) (.reg .d) s

/-- MOV E,E, opcode 0x5B (R121). -/
def execMovEE (s : State) : Result := move (.reg .e) (.reg .e) s

/-- MOV E,H, opcode 0x5C (R121). -/
def execMovEH (s : State) : Result := move (.reg .e) (.reg .h) s

/-- MOV E,L, opcode 0x5D (R121). -/
def execMovEL (s : State) : Result := move (.reg .e) (.reg .l) s

/-- MOV E,M, opcode 0x5E (R122). -/
def execMovEM (s : State) : Result := move (.reg .e) .m s

/-- MOV E,A, opcode 0x5F (R121). -/
def execMovEA (s : State) : Result := move (.reg .e) (.reg .a) s

/-- MOV H,B, opcode 0x60 (R121). -/
def execMovHB (s : State) : Result := move (.reg .h) (.reg .b) s

/-- MOV H,C, opcode 0x61 (R121). -/
def execMovHC (s : State) : Result := move (.reg .h) (.reg .c) s

/-- MOV H,D, opcode 0x62 (R121). -/
def execMovHD (s : State) : Result := move (.reg .h) (.reg .d) s

/-- MOV H,E, opcode 0x63 (R121). -/
def execMovHE (s : State) : Result := move (.reg .h) (.reg .e) s

/-- MOV H,H, opcode 0x64 (R121). -/
def execMovHH (s : State) : Result := move (.reg .h) (.reg .h) s

/-- MOV H,L, opcode 0x65 (R121). -/
def execMovHL (s : State) : Result := move (.reg .h) (.reg .l) s

/-- MOV H,M, opcode 0x66 (R122). -/
def execMovHM (s : State) : Result := move (.reg .h) .m s

/-- MOV H,A, opcode 0x67 (R121). -/
def execMovHA (s : State) : Result := move (.reg .h) (.reg .a) s

/-- MOV L,B, opcode 0x68 (R121). -/
def execMovLB (s : State) : Result := move (.reg .l) (.reg .b) s

/-- MOV L,C, opcode 0x69 (R121). -/
def execMovLC (s : State) : Result := move (.reg .l) (.reg .c) s

/-- MOV L,D, opcode 0x6A (R121). -/
def execMovLD (s : State) : Result := move (.reg .l) (.reg .d) s

/-- MOV L,E, opcode 0x6B (R121). -/
def execMovLE (s : State) : Result := move (.reg .l) (.reg .e) s

/-- MOV L,H, opcode 0x6C (R121). -/
def execMovLH (s : State) : Result := move (.reg .l) (.reg .h) s

/-- MOV L,L, opcode 0x6D (R121). -/
def execMovLL (s : State) : Result := move (.reg .l) (.reg .l) s

/-- MOV L,M, opcode 0x6E (R122). -/
def execMovLM (s : State) : Result := move (.reg .l) .m s

/-- MOV L,A, opcode 0x6F (R121). -/
def execMovLA (s : State) : Result := move (.reg .l) (.reg .a) s

/-- MOV M,B, opcode 0x70 (R123). -/
def execMovMB (s : State) : Result := move .m (.reg .b) s

/-- MOV M,C, opcode 0x71 (R123). -/
def execMovMC (s : State) : Result := move .m (.reg .c) s

/-- MOV M,D, opcode 0x72 (R123). -/
def execMovMD (s : State) : Result := move .m (.reg .d) s

/-- MOV M,E, opcode 0x73 (R123). -/
def execMovME (s : State) : Result := move .m (.reg .e) s

/-- MOV M,H, opcode 0x74 (R123). -/
def execMovMH (s : State) : Result := move .m (.reg .h) s

/-- MOV M,L, opcode 0x75 (R123). -/
def execMovML (s : State) : Result := move .m (.reg .l) s

/-- MOV M,A, opcode 0x77 (R123). -/
def execMovMA (s : State) : Result := move .m (.reg .a) s

/-- MOV A,B, opcode 0x78 (R121). -/
def execMovAB (s : State) : Result := move (.reg .a) (.reg .b) s

/-- MOV A,C, opcode 0x79 (R121). -/
def execMovAC (s : State) : Result := move (.reg .a) (.reg .c) s

/-- MOV A,D, opcode 0x7A (R121). -/
def execMovAD (s : State) : Result := move (.reg .a) (.reg .d) s

/-- MOV A,E, opcode 0x7B (R121). -/
def execMovAE (s : State) : Result := move (.reg .a) (.reg .e) s

/-- MOV A,H, opcode 0x7C (R121). -/
def execMovAH (s : State) : Result := move (.reg .a) (.reg .h) s

/-- MOV A,L, opcode 0x7D (R121). -/
def execMovAL (s : State) : Result := move (.reg .a) (.reg .l) s

/-- MOV A,M, opcode 0x7E (R122). -/
def execMovAM (s : State) : Result := move (.reg .a) .m s

/-- MOV A,A, opcode 0x7F (R121). -/
def execMovAA (s : State) : Result := move (.reg .a) (.reg .a) s

/-! ## MVI -/

/-- MVI B,d8, opcode 0x06 (R125). -/
def execMviB (d8 : Byte) (s : State) : Result := moveImmediate (.reg .b) d8 s

/-- MVI C,d8, opcode 0x0E (R125). -/
def execMviC (d8 : Byte) (s : State) : Result := moveImmediate (.reg .c) d8 s

/-- MVI D,d8, opcode 0x16 (R125). -/
def execMviD (d8 : Byte) (s : State) : Result := moveImmediate (.reg .d) d8 s

/-- MVI E,d8, opcode 0x1E (R125). -/
def execMviE (d8 : Byte) (s : State) : Result := moveImmediate (.reg .e) d8 s

/-- MVI H,d8, opcode 0x26 (R125). -/
def execMviH (d8 : Byte) (s : State) : Result := moveImmediate (.reg .h) d8 s

/-- MVI L,d8, opcode 0x2E (R125). -/
def execMviL (d8 : Byte) (s : State) : Result := moveImmediate (.reg .l) d8 s

/-- MVI M,d8, opcode 0x36 (R126). -/
def execMviM (d8 : Byte) (s : State) : Result := moveImmediate .m d8 s

/-- MVI A,d8, opcode 0x3E (R125). -/
def execMviA (d8 : Byte) (s : State) : Result := moveImmediate (.reg .a) d8 s

/-! ## LXI -/

/-- LXI B,d16, opcode 0x01 (R127). -/
def execLxiB (d16 : Word) (s : State) : Result := loadPair .bc d16 s

/-- LXI D,d16, opcode 0x11 (R127). -/
def execLxiD (d16 : Word) (s : State) : Result := loadPair .de d16 s

/-- LXI H,d16, opcode 0x21 (R127). -/
def execLxiH (d16 : Word) (s : State) : Result := loadPair .hl d16 s

/-- LXI SP,d16, opcode 0x31 (R127). -/
def execLxiSP (d16 : Word) (s : State) : Result := loadPair .sp d16 s

/-! ## STAX and LDAX -/

/-- STAX B, opcode 0x02 (R128). -/
def execStaxB (s : State) : Result := storeIndirect .bc s

/-- STAX D, opcode 0x12 (R128). -/
def execStaxD (s : State) : Result := storeIndirect .de s

/-- LDAX B, opcode 0x0A (R129). -/
def execLdaxB (s : State) : Result := loadIndirect .bc s

/-- LDAX D, opcode 0x1A (R129). -/
def execLdaxD (s : State) : Result := loadIndirect .de s

/-! ## Direct addressing (R130): the address is the instruction's second and third byte -/

/-- STA addr, opcode 0x32: `MemWrite(addr, 1, A)`, 3 bytes (R131). -/
def execSta (addr : Word) (s : State) : Result := (s.writeByte addr s.regs.a).retire 3

/-- LDA addr, opcode 0x3A: `A <- MemRead(addr, 1)`, 3 bytes (R132). -/
def execLda (addr : Word) (s : State) : Result := (s.writeReg .a (s.readByte addr)).retire 3

/-- SHLD addr, opcode 0x22: L at addr, H at addr + 1, 3 bytes (R133). -/
def execShld (addr : Word) (s : State) : Result := (s.writeWord addr (s.readPair .hl)).retire 3

/-- LHLD addr, opcode 0x2A: L from addr, H from addr + 1, 3 bytes (R134). -/
def execLhld (addr : Word) (s : State) : Result := (s.writePair .hl (s.readWord addr)).retire 3

end Sys2Proof.Machine
end

