-- ==== Sys2Proof/Machine/RotateLogical.lean ====
section
/-! DEFINITION. The rotate and single-operand logical instructions (44_rotate_logical.md), each 1 byte long. The rotates, STC
and CMC write CY directly; Z, S, P and AC keep their values (R167). -/

namespace Sys2Proof.Machine

/-- Write A and CY: what each of the four rotates does (R167). -/
def rotated (a : Byte) (cy : Bool) (s : State) : Result := ((s.writeReg .a a).setCarry cy).retire 1

/-- RLC, opcode 0x07: `A <- A[6:0] ## A[7]; CY <- A[7]` (R160). -/
def execRlc (s : State) : Result :=
  rotated (s.regs.a.extractLsb' 0 7 ++ s.regs.a.extractLsb' 7 1) (s.regs.a.getLsbD 7) s

/-- RRC, opcode 0x0F: `A <- A[0] ## A[7:1]; CY <- A[0]` (R161). -/
def execRrc (s : State) : Result :=
  rotated (s.regs.a.extractLsb' 0 1 ++ s.regs.a.extractLsb' 1 7) (s.regs.a.getLsbD 0) s

/-- RAL, opcode 0x17: `A <- A[6:0] ## CY; CY <- A[7]` (R162). -/
def execRal (s : State) : Result :=
  rotated (s.regs.a.extractLsb' 0 7 ++ BitVec.ofBool s.flags.cy) (s.regs.a.getLsbD 7) s

/-- RAR, opcode 0x1F: `A <- CY ## A[7:1]; CY <- A[0]` (R163). -/
def execRar (s : State) : Result :=
  rotated (BitVec.ofBool s.flags.cy ++ s.regs.a.extractLsb' 1 7) (s.regs.a.getLsbD 0) s

/-- CMA, opcode 0x2F: `A <- ~A`; no flag (R164). -/
def execCma (s : State) : Result := (s.writeReg .a (~~~s.regs.a)).retire 1

/-- STC, opcode 0x37: `CY <- 1` (R166). -/
def execStc (s : State) : Result := (s.setCarry true).retire 1

/-- CMC, opcode 0x3F: `CY <- ~CY` (R165). -/
def execCmc (s : State) : Result := (s.setCarry (!s.flags.cy)).retire 1

end Sys2Proof.Machine
end

