-- ==== Sys2Proof/Machine/Fetch.lean ====
section
/-! DEFINITION. Fetching and decoding the instruction at the program counter (R56, R110 to R112), and writing one there. -/

namespace Sys2Proof.Machine

/-- The `n` bytes from `addr` on, addresses wrapping (R56). -/
def State.bytesFrom (s : State) (addr : Word) (n : Nat) : List Byte :=
  match n with
  | 0 => []
  | k + 1 => s.readByte addr :: s.bytesFrom (addr + 1) k

/-- The instruction at the program counter: the opcode byte chooses the entry, and the entry takes byte 2 and byte 3 from the
addresses after it, wrapping (R56, R72, R111, R112). -/
def State.fetch (s : State) : Instr :=
  (decodeOpcode (s.readByte s.pc)).instr (s.readByte s.pc) (s.readByte (s.pc + 1)) (s.readByte (s.pc + 2))

/-- Put bytes into memory from `addr` on, addresses wrapping: the host filling the buffer (R9, R222). -/
def State.loadBytes (s : State) (addr : Word) (bytes : List Byte) : State :=
  match bytes with
  | [] => s
  | v :: rest => (s.writeByte addr v).loadBytes (addr + 1) rest

end Sys2Proof.Machine
end

