-- ==== Sys2Proof/Machine/Step.lean ====
section
/-! DEFINITION. One step of the dispatcher (R110), and placing an instruction where the next step fetches. -/

namespace Sys2Proof.Machine

/-- One step: refused while TRAPPED = 1 (R117), else the instruction at the program counter, whole (R110, R115). The advance
of the program counter stands in each instruction's meaning (R114; log 7). -/
def step (s : State) : Host.Outcome State Fault Refusal :=
  if s.trapped then .refused .trappedNoStep else exec s.fetch s

/-- The host places the instruction whose bits are `w` at the program counter, its bytes above `nbits` zero, with TRAPPED
clear, so that the very next step runs it (R9, R222; log 4). -/
def State.withFetchWord (s : State) (nbits w : Nat) : State :=
  ({ s with trapped := false } : State).loadBytes s.pc (tableWordBytes nbits w)

end Sys2Proof.Machine
end

