-- ==== Sys2Proof/Config.lean ====
section
/-! DEFINITION. What the spec leaves open for the whole machine (R6). INITIAL_MEMORY and INITIAL_STATE_OVERRIDE are arguments of
the host's operations (Machine/HostPort.lean); the trap's exit status is the free value below. -/

namespace Sys2Proof

/-- One less than TRAP_EXIT_STATUS: no body, so nothing can be proved of the number (log 9). -/
opaque Config.trapExitStatusLessOne : Nat

/-- TRAP_EXIT_STATUS: some non-zero number that no rule of the machine reads (R6, R202; log 9). -/
def Config.trapExitStatus : Nat := Config.trapExitStatusLessOne + 1

end Sys2Proof
end

