-- ==== Sys2Proof/Machine/HostPort.lean ====
section
/-! DEFINITION. The core's interfaces to the host, apart from STEP: the TRAP report (R10), the flags byte (R11), and what the
host does at reset (section 1 of 70_reset_and_hazards.md). None of these is part of a step (log 8). -/

namespace Sys2Proof.Machine

/-- The fault kinds of the document's error taxonomy, known by their names: there is no cause code (R200, R201, D17). -/
inductive FaultKind where
  /-- The one kind that the machine ever reports (R201, R203). -/
  | unimplementedOpcode
  /-- Never reported: it has no cause (R206; log 10). -/
  | memoryAccessFault
  /-- Never reported: it has no cause (R207; log 10). -/
  | invariantViolation
deriving DecidableEq, Repr

/-- What the TRAP interface reports: the fault kind, the opcode byte and the address it was fetched from (R10, R201, R203, D15). -/
structure TrapReport where
  kind   : FaultKind
  opcode : Byte
  pc     : Word
deriving DecidableEq, Repr

/-- The report of a trapped machine: (UnimplementedOpcode, TRAP_OPCODE, TRAP_PC) (R203), of that kind because nothing else sets
TRAPPED (R200, R201). TRAP_OPCODE and TRAP_PC mean nothing while TRAPPED = 0 (R40). -/
def State.trapReport (s : State) : Option TrapReport :=
  if s.trapped then some { kind := .unimplementedOpcode, opcode := s.trapOpcode, pc := s.trapPc } else none

/-- The exit status the software original ends with on a trap (R202; log 9). -/
def State.exitStatus (s : State) : Option Nat := if s.trapped then some Config.trapExitStatus else none

/-- The flags byte (R11, R31). -/
def State.flagsByte (s : State) : Byte := s.flags.toByte

/-- INITIAL_STATE_OVERRIDE: the CPU state the host may load at reset in place of the zeroed one (R6, R221). -/
structure StateOverride where
  regs  : Regs
  sp    : Word
  pc    : Word
  flags : Flags
  inte  : Bool
deriving DecidableEq, Repr

/-- Reset by the host (R220): every register takes its reset value, memory is not touched. -/
def State.hostReset (s : State) : State := { State.reset with mem := s.mem }

/-- Reset with a loaded state (R221): TRAPPED is 0 in either case, memory is not touched. -/
def State.hostResetWith (s : State) (loaded : StateOverride) : State :=
  { s.hostReset with regs := loaded.regs, sp := loaded.sp, pc := loaded.pc, flags := loaded.flags, inte := loaded.inte }

/-- The override a host uses to leave a trap (R209): the unchanged state with PC altered as it wishes. -/
def State.resumeAt (s : State) (pc : Word) : StateOverride :=
  { regs := s.regs, sp := s.sp, pc := pc, flags := s.flags, inte := s.inte }

/-- The launch state of R224: INITIAL_MEMORY in the buffer and the CPU state zeroed, or loaded where the host gives one. -/
def State.launch (initialMemory : Memory) (loaded : Option StateOverride) : State :=
  match loaded with
  | none => { State.reset with mem := initialMemory }
  | some o => ({ State.reset with mem := initialMemory } : State).hostResetWith o

end Sys2Proof.Machine
end

