-- ==== Sys2Proof/Safety.lean ====
section
/-! DEFINITION. What a safe state and a safe run are, in the terms statements use. -/

namespace Sys2Proof.Machine

/-- The record of a trap agrees with the machine that took it: the recorded pc is the program counter, the byte there is the
recorded opcode, and that opcode is a trapping one (R203, R204, note D8). -/
def State.trapRecordHolds (s : State) : Prop :=
  s.trapped = true → s.trapPc = s.pc ∧ s.readByte s.pc = s.trapOpcode ∧ isTrapOpcode s.trapOpcode = true

/-- The invariant of the machine: memory in canonical form, and a trap record that holds. -/
def State.Inv (s : State) : Prop := s.mem.wf ∧ s.trapRecordHolds

/-- A run of `n` steps from `s`, the host doing nothing between them (log 8), never faults, and is turned away only because the
machine has trapped (R113, R117, R200; log 3). -/
def SafeRun (n : Nat) (s : State) : Prop :=
  (∀ r : Fault, Sys2Proof.core.run n s ≠ .fault r) ∧
    ∀ r : Refusal, Sys2Proof.core.run n s = .refused r → r = Refusal.trappedNoStep

end Sys2Proof.Machine
end

