-- ==== Sys2Proof/Certificates/Slice0/Obligations.lean ====
section
/-! DEFINITION. The statements for the provers, each a rule of spec/ or a consequence of several. A statement about an
instruction names its form (`Instr.form`), gives its bytes as numbers of the rule's "Encoding" part, and gives the whole next
state: what stands after `with` changes and nothing else does. -/

open Sys2Proof Sys2Proof.Machine

namespace Sys2Proof.Slice0

/-- The number of 1 bits is even, said by exclusive or (not the way `parityEven` counts). -/
def evenOnes {w : Nat} (v : BitVec w) : Bool := !((List.range w).foldl (fun odd i => odd ^^ v.getLsbD i) false)

/-- The flags of an 8-bit result: Z, S and P from the result (R26), CY and AC as given. -/
def resultFlags (res : Byte) (cy ac : Bool) : Flags where
  z := res == 0
  s := decide (128 ≤ res.toNat)
  p := evenOnes res
  cy := cy
  ac := ac

/-- The address in H and L, H the high byte (R23). -/
def addressHL (s : State) : Word := BitVec.ofNat 16 (s.regs.h.toNat * 256 + s.regs.l.toNat)

/-- The address in the second and third byte of the instruction at the program counter (R56, R73). -/
def addressOperand (s : State) : Word :=
  BitVec.ofNat 16 ((s.readByte (s.pc + 2)).toNat * 256 + (s.readByte (s.pc + 1)).toNat)

/-- Length in bytes of an implemented opcode, as R70 lists them: 3 for LXI, STA, LDA, SHLD, LHLD; 2 for MVI; 1 for the rest. -/
def opcodeLength (op : Byte) : Nat :=
  if op ∈ ([0x01, 0x11, 0x21, 0x31, 0x32, 0x3A, 0x22, 0x2A] : List Byte) then 3
  else if op &&& 0xC7 = 0x06 then 2
  else 1

/-- `n` instructions of one kind in a row. -/
def execTimes (i : Instr) (n : Nat) (s : State) : Result :=
  match n with
  | 0 => .next s
  | k + 1 =>
    match exec i s with
    | .next t => execTimes i k t
    | .fault r => .fault r
    | .refused r => .refused r

/-- The registers, SP, PC, the flags (and so the flags byte), INTE and TRAPPED are all zero, as the table of R40 lists them. -/
def cpuZeroed (s : State) : Prop :=
  s.regs = { a := 0, b := 0, c := 0, d := 0, e := 0, h := 0, l := 0 } ∧ s.sp = 0 ∧ s.pc = 0 ∧
    s.flags = { z := false, s := false, p := false, cy := false, ac := false } ∧ s.flagsByte = 0x00 ∧
    s.inte = false ∧ s.trapped = false

end Sys2Proof.Slice0

open Sys2Proof.Slice0

/-! ## The functional units -/

/-- R91, R92, R93. -/
def Obligations.AdderComputesSumCarryAndHalfCarry : Prop :=
  ∀ (w : Nat) (a b : BitVec w) (cin : Bool),
    (addWithCarry a b cin).result.toNat = (a.toNat + b.toNat + cin.toNat) % 2 ^ w ∧
    ((addWithCarry a b cin).carryOut = true ↔ a.toNat + b.toNat + cin.toNat ≥ 2 ^ w) ∧
    ((addWithCarry a b cin).auxCarryOut = true ↔ a.toNat % 16 + b.toNat % 16 + cin.toNat ≥ 16)

/-- R94: the ripple-carry form and the arithmetic form are the same function at both widths of the machine. -/
def Obligations.RippleAdderEqualsArithmeticAdder : Prop :=
  (∀ (a b : BitVec 8) (cin : Bool), rippleAdd a b cin = addWithCarry a b cin) ∧
    ∀ (a b : BitVec 16) (cin : Bool), rippleAdd a b cin = addWithCarry a b cin

/-- R108: two passes without carry-in give the three outputs of the single pass, and the two passes never both carry. -/
def Obligations.TwoPassSumEqualsCarryInSum : Prop :=
  ∀ (w : Nat), w = 8 ∨ w = 16 → ∀ (a b : BitVec w) (cin : Bool),
    twoPassAdd a b cin = addWithCarry a b cin ∧
    ¬((addWithCarry a b false).carryOut = true ∧
      (addWithCarry (addWithCarry a b false).result (BitVec.ofNat w cin.toNat) false).carryOut = true) ∧
    ¬((addWithCarry a b false).auxCarryOut = true ∧
      (addWithCarry (addWithCarry a b false).result (BitVec.ofNat w cin.toNat) false).auxCarryOut = true)

/-- R104, R105, R106. -/
def Obligations.PackAndUnpackAreInverse : Prop :=
  (∀ h l : Byte, (pack h l).toNat = h.toNat * 256 + l.toNat ∧ unpack (pack h l) = (h, l)) ∧
    ∀ v : Word, (unpack v).1.toNat = v.toNat / 256 ∧ (unpack v).2.toNat = v.toNat % 256 ∧ pack (unpack v).1 (unpack v).2 = v

/-- R97 to R102: each flag is written when the mask requests it, and keeps its value when it does not; nothing but the flags
changes. -/
def Obligations.ApplyFlagsWritesRequestedFlagsOnly : Prop :=
  ∀ (s : State) (mask : FlagMask) (value : Word),
    (s.applyFlags mask value).flags.z = (if mask.z then decide (value.toNat = 0) else s.flags.z) ∧
    (s.applyFlags mask value).flags.s = (if mask.s then value.getLsbD 7 else s.flags.s) ∧
    (s.applyFlags mask value).flags.p = (if mask.p then evenOnes value else s.flags.p) ∧
    (s.applyFlags mask value).flags.cy = (if mask.cy then mask.cyVal else s.flags.cy) ∧
    (s.applyFlags mask value).flags.ac = (if mask.ac then mask.acVal else s.flags.ac) ∧
    s.applyFlags mask value = { s with flags := (s.applyFlags mask value).flags }

/-- R31, R32: the layout of the flags byte, padding bits 0. -/
def Obligations.FlagsByteHasTheStatedLayout : Prop :=
  ∀ s : State,
    s.flagsByte.getLsbD 0 = s.flags.z ∧ s.flagsByte.getLsbD 1 = s.flags.s ∧ s.flagsByte.getLsbD 2 = s.flags.p ∧
    s.flagsByte.getLsbD 3 = s.flags.cy ∧ s.flagsByte.getLsbD 4 = s.flags.ac ∧
    s.flagsByte.getLsbD 5 = false ∧ s.flagsByte.getLsbD 6 = false ∧ s.flagsByte.getLsbD 7 = false

/-! ## Memory, operands and pairs -/

/-- R53: a byte write decides its own address, leaves all others, and touches nothing but memory. -/
def Obligations.ByteWriteChangesOneByte : Prop :=
  ∀ (s : State) (a x : Word) (v : Byte),
    (s.writeByte a v).readByte x = (if x = a then v else s.readByte x) ∧
    s.writeByte a v = { s with mem := (s.writeByte a v).mem }

/-- R54, R55: a 16-bit access is two byte accesses, the low byte at the lower address, the second address wrapping. -/
def Obligations.WordAccessIsTwoByteAccesses : Prop :=
  ∀ (s : State) (a v x : Word),
    (s.readWord a).toNat = (s.readByte (a + 1)).toNat * 256 + (s.readByte a).toNat ∧
    (s.writeWord a v).readByte x =
      (if x = a then BitVec.ofNat 8 v.toNat else if x = a + 1 then BitVec.ofNat 8 (v.toNat / 256) else s.readByte x) ∧
    s.writeWord a v = { s with mem := (s.writeWord a v).mem } ∧
    (s.writeWord a v).readWord a = v

/-- Memory in canonical form is determined by what it reads as: equal memories are equal lists (the model's own choice, log 11). -/
def Obligations.CanonicalMemoriesThatReadAlikeAreEqual : Prop :=
  ∀ m n : Memory, m.wf → n.wf → (∀ a : Word, m.lookup a.toNat = n.lookup a.toNat) → m = n

/-- R74: the codes, and what each selects, read and written. -/
def Obligations.OperandCodeSelectsRegisterOrMemory : Prop :=
  ([.reg .b, .reg .c, .reg .d, .reg .e, .reg .h, .reg .l, .m, .reg .a] : List Operand).map (fun o => o.code.toNat) =
    [0, 1, 2, 3, 4, 5, 6, 7] ∧
  ∀ (s : State) (v : Byte) (r r' : Reg) (x : Word),
    [Reg.b, .c, .d, .e, .h, .l, .a].map s.regs.read =
      [s.regs.b, s.regs.c, s.regs.d, s.regs.e, s.regs.h, s.regs.l, s.regs.a] ∧
    s.readOperand (.reg r) = s.regs.read r ∧
    s.readOperand .m = s.readByte (addressHL s) ∧
    (s.writeOperand (.reg r) v).regs.read r' = (if r' = r then v else s.regs.read r') ∧
    s.writeOperand (.reg r) v = { s with regs := (s.writeOperand (.reg r) v).regs } ∧
    (s.writeOperand .m v).readByte x = (if x = addressHL s then v else s.readByte x) ∧
    s.writeOperand .m v = { s with mem := (s.writeOperand .m v).mem }

/-- R75: the codes, the halves of each pair, reading and writing; STAX and LDAX take only the first two. -/
def Obligations.PairCodeSelectsHighAndLowByte : Prop :=
  ([.bc, .de, .hl, .sp] : List Pair).map (fun p => p.code.toNat) = [0, 1, 2, 3] ∧
  (∀ (i : Instr) (p : Pair), i.form = .stax p ∨ i.form = .ldax p → p = .bc ∨ p = .de) ∧
  ∀ (s : State) (v : Word),
    (s.readPair .bc).toNat = s.regs.b.toNat * 256 + s.regs.c.toNat ∧
    (s.readPair .de).toNat = s.regs.d.toNat * 256 + s.regs.e.toNat ∧
    (s.readPair .hl).toNat = s.regs.h.toNat * 256 + s.regs.l.toNat ∧
    s.readPair .sp = s.sp ∧
    s.writePair .bc v =
      { s with regs := { s.regs with b := BitVec.ofNat 8 (v.toNat / 256), c := BitVec.ofNat 8 v.toNat } } ∧
    s.writePair .de v =
      { s with regs := { s.regs with d := BitVec.ofNat 8 (v.toNat / 256), e := BitVec.ofNat 8 v.toNat } } ∧
    s.writePair .hl v =
      { s with regs := { s.regs with h := BitVec.ofNat 8 (v.toNat / 256), l := BitVec.ofNat 8 v.toNat } } ∧
    s.writePair .sp v = { s with sp := v }

/-! ## NOP and the data-transfer instructions -/

/-- R116: NOP. -/
def Obligations.NopOnlyAdvances : Prop :=
  encode .nop = [0x00] ∧ ∀ s : State, exec .nop s = .next { s with pc := s.pc + 1 }

/-- R121: the 49 constructors movXY with X and Y in B, C, D, E, H, L, A. -/
def Obligations.MovCopiesRegisterToRegister : Prop :=
  ∀ (i : Instr) (dst src : Reg) (s : State), i.form = .mov (.reg dst) (.reg src) →
    encode i = [BitVec.ofNat 8 (0x40 + 8 * dst.code.toNat + src.code.toNat)] ∧
    exec i s = .next { s with regs := s.regs.write dst (s.regs.read src), pc := s.pc + 1 }

/-- R122: the seven constructors movXM. -/
def Obligations.MovLoadsRegisterFromMemory : Prop :=
  ∀ (i : Instr) (dst : Reg) (s : State), i.form = .mov (.reg dst) .m →
    encode i = [BitVec.ofNat 8 (0x46 + 8 * dst.code.toNat)] ∧
    exec i s = .next { s with regs := s.regs.write dst (s.readByte (addressHL s)), pc := s.pc + 1 }

/-- R123: the seven constructors movMX. -/
def Obligations.MovStoresRegisterToMemory : Prop :=
  ∀ (i : Instr) (r : Reg) (s : State), i.form = .mov .m (.reg r) →
    encode i = [BitVec.ofNat 8 (0x70 + r.code.toNat)] ∧
    ∃ t : State, exec i s = .next t ∧ t = { s with mem := t.mem, pc := s.pc + 1 } ∧
      ∀ x : Word, t.readByte x = if x = addressHL s then s.regs.read r else s.readByte x

/-- R125: the seven constructors mviX. -/
def Obligations.MviLoadsRegister : Prop :=
  ∀ (i : Instr) (dst : Reg) (d8 : Byte) (s : State), i.form = .mvi (.reg dst) d8 →
    encode i = [BitVec.ofNat 8 (0x06 + 8 * dst.code.toNat), d8] ∧
    exec i s = .next { s with regs := s.regs.write dst d8, pc := s.pc + 2 }

/-- R126: mviM. -/
def Obligations.MviStoresToMemory : Prop :=
  ∀ (d8 : Byte) (s : State), encode (.mviM d8) = [0x36, d8] ∧
    ∃ t : State, exec (.mviM d8) s = .next t ∧ t = { s with mem := t.mem, pc := s.pc + 2 } ∧
      ∀ x : Word, t.readByte x = if x = addressHL s then d8 else s.readByte x

/-- R127: lxiB, lxiD, lxiH and lxiSP. -/
def Obligations.LxiLoadsLowAndHighByte : Prop :=
  ∀ (i : Instr) (rp : Pair) (byte2 byte3 : Byte) (s : State), i.form = .lxi rp (pack byte3 byte2) →
    encode i = [BitVec.ofNat 8 (0x01 + 16 * rp.code.toNat), byte2, byte3] ∧
    exec i s = .next
      (match rp with
      | .bc => { s with regs := { s.regs with b := byte3, c := byte2 }, pc := s.pc + 3 }
      | .de => { s with regs := { s.regs with d := byte3, e := byte2 }, pc := s.pc + 3 }
      | .hl => { s with regs := { s.regs with h := byte3, l := byte2 }, pc := s.pc + 3 }
      | .sp => { s with sp := pack byte3 byte2, pc := s.pc + 3 })

/-- R128: staxB and staxD. -/
def Obligations.StaxStoresAccumulator : Prop :=
  encode .staxB = [0x02] ∧ encode .staxD = [0x12] ∧
  ∀ s : State,
    (∃ t : State, exec .staxB s = .next t ∧ t = { s with mem := t.mem, pc := s.pc + 1 } ∧
      ∀ x : Word, t.readByte x = if x.toNat = s.regs.b.toNat * 256 + s.regs.c.toNat then s.regs.a else s.readByte x) ∧
    ∃ t : State, exec .staxD s = .next t ∧ t = { s with mem := t.mem, pc := s.pc + 1 } ∧
      ∀ x : Word, t.readByte x = if x.toNat = s.regs.d.toNat * 256 + s.regs.e.toNat then s.regs.a else s.readByte x

/-- R129: ldaxB and ldaxD. -/
def Obligations.LdaxLoadsAccumulator : Prop :=
  encode .ldaxB = [0x0A] ∧ encode .ldaxD = [0x1A] ∧
  ∀ s : State,
    exec .ldaxB s = .next { s with
      regs := { s.regs with a := s.readByte (BitVec.ofNat 16 (s.regs.b.toNat * 256 + s.regs.c.toNat)) }, pc := s.pc + 1 } ∧
    exec .ldaxD s = .next { s with
      regs := { s.regs with a := s.readByte (BitVec.ofNat 16 (s.regs.d.toNat * 256 + s.regs.e.toNat)) }, pc := s.pc + 1 }

/-- R131: sta. -/
def Obligations.StaStoresAccumulator : Prop :=
  ∀ (byte2 byte3 : Byte) (s : State), encode (.sta (pack byte3 byte2)) = [0x32, byte2, byte3] ∧
    ∃ t : State, exec (.sta (pack byte3 byte2)) s = .next t ∧ t = { s with mem := t.mem, pc := s.pc + 3 } ∧
      ∀ x : Word, t.readByte x = if x = pack byte3 byte2 then s.regs.a else s.readByte x

/-- R132: lda. -/
def Obligations.LdaLoadsAccumulator : Prop :=
  ∀ (byte2 byte3 : Byte) (s : State), encode (.lda (pack byte3 byte2)) = [0x3A, byte2, byte3] ∧
    exec (.lda (pack byte3 byte2)) s =
      .next { s with regs := { s.regs with a := s.readByte (pack byte3 byte2) }, pc := s.pc + 3 }

/-- R133: shld. -/
def Obligations.ShldStoresLThenH : Prop :=
  ∀ (byte2 byte3 : Byte) (s : State), encode (.shld (pack byte3 byte2)) = [0x22, byte2, byte3] ∧
    ∃ t : State, exec (.shld (pack byte3 byte2)) s = .next t ∧ t = { s with mem := t.mem, pc := s.pc + 3 } ∧
      ∀ x : Word, t.readByte x =
        if x = pack byte3 byte2 then s.regs.l else if x = pack byte3 byte2 + 1 then s.regs.h else s.readByte x

/-- R134: lhld. -/
def Obligations.LhldLoadsLThenH : Prop :=
  ∀ (byte2 byte3 : Byte) (s : State), encode (.lhld (pack byte3 byte2)) = [0x2A, byte2, byte3] ∧
    exec (.lhld (pack byte3 byte2)) s =
      .next { s with
        regs := { s.regs with l := s.readByte (pack byte3 byte2), h := s.readByte (pack byte3 byte2 + 1) }, pc := s.pc + 3 }

/-! ## The arithmetic instructions -/

/-- R141: the seven constructors inrX of a register. -/
def Obligations.InrIncrementsRegister : Prop :=
  ∀ (i : Instr) (r : Reg) (s : State), i.form = .inr (.reg r) →
    encode i = [BitVec.ofNat 8 (0x04 + 8 * r.code.toNat)] ∧
    exec i s = .next { s with
      regs := s.regs.write r (s.regs.read r + 1)
      flags := resultFlags (s.regs.read r + 1) s.flags.cy (decide ((s.regs.read r).toNat % 16 = 15))
      pc := s.pc + 1 }

/-- R142: inrM. -/
def Obligations.InrIncrementsMemory : Prop :=
  encode .inrM = [0x34] ∧
  ∀ s : State, ∃ t : State, exec .inrM s = .next t ∧
    t = { s with
      mem := t.mem
      flags := resultFlags (s.readByte (addressHL s) + 1) s.flags.cy (decide ((s.readByte (addressHL s)).toNat % 16 = 15))
      pc := s.pc + 1 } ∧
    ∀ x : Word, t.readByte x = if x = addressHL s then s.readByte (addressHL s) + 1 else s.readByte x

/-- R143: the seven constructors dcrX of a register. -/
def Obligations.DcrDecrementsRegister : Prop :=
  ∀ (i : Instr) (r : Reg) (s : State), i.form = .dcr (.reg r) →
    encode i = [BitVec.ofNat 8 (0x05 + 8 * r.code.toNat)] ∧
    exec i s = .next { s with
      regs := s.regs.write r (s.regs.read r - 1)
      flags := resultFlags (s.regs.read r - 1) s.flags.cy (decide ((s.regs.read r).toNat % 16 ≠ 0))
      pc := s.pc + 1 }

/-- R144: dcrM. -/
def Obligations.DcrDecrementsMemory : Prop :=
  encode .dcrM = [0x35] ∧
  ∀ s : State, ∃ t : State, exec .dcrM s = .next t ∧
    t = { s with
      mem := t.mem
      flags := resultFlags (s.readByte (addressHL s) - 1) s.flags.cy (decide ((s.readByte (addressHL s)).toNat % 16 ≠ 0))
      pc := s.pc + 1 } ∧
    ∀ x : Word, t.readByte x = if x = addressHL s then s.readByte (addressHL s) - 1 else s.readByte x

/-- R145: inxB, inxD, inxH and inxSP; no flag. -/
def Obligations.InxIncrementsPair : Prop :=
  ∀ (i : Instr) (rp : Pair) (s : State), i.form = .inx rp →
    encode i = [BitVec.ofNat 8 (0x03 + 16 * rp.code.toNat)] ∧
    exec i s = .next { s.writePair rp (s.readPair rp + 1) with pc := s.pc + 1 }

/-- R146: dcxB, dcxD, dcxH and dcxSP; no flag. -/
def Obligations.DcxDecrementsPair : Prop :=
  ∀ (i : Instr) (rp : Pair) (s : State), i.form = .dcx rp →
    encode i = [BitVec.ofNat 8 (0x0B + 16 * rp.code.toNat)] ∧
    exec i s = .next { s.writePair rp (s.readPair rp - 1) with pc := s.pc + 1 }

/-- R147: dadB, dadD, dadH and dadSP; CY and no other flag. -/
def Obligations.DadAddsPairToHL : Prop :=
  ∀ (i : Instr) (rp : Pair) (s : State), i.form = .dad rp →
    encode i = [BitVec.ofNat 8 (0x09 + 16 * rp.code.toNat)] ∧
    exec i s = .next { s with
      regs := { s.regs with
        h := BitVec.ofNat 8 (((addressHL s).toNat + (s.readPair rp).toNat) / 256)
        l := BitVec.ofNat 8 ((addressHL s).toNat + (s.readPair rp).toNat) }
      flags := { s.flags with cy := decide ((addressHL s).toNat + (s.readPair rp).toNat ≥ 65536) }
      pc := s.pc + 1 }

/-- R150 and R151: addX of a register, and addM. -/
def Obligations.AddAddsOperandToAccumulator : Prop :=
  ∀ (i : Instr) (o : Operand) (s : State), i.form = .add o →
    encode i = [BitVec.ofNat 8 (0x80 + o.code.toNat)] ∧
    exec i s = .next { s with
      regs := { s.regs with a := s.regs.a + s.readOperand o }
      flags := resultFlags (s.regs.a + s.readOperand o) (decide (s.regs.a.toNat + (s.readOperand o).toNat ≥ 256))
        (decide (s.regs.a.toNat % 16 + (s.readOperand o).toNat % 16 ≥ 16))
      pc := s.pc + 1 }

/-- R153 and R154: adcX of a register, and adcM; CY as it was before the instruction is the carry-in. -/
def Obligations.AdcAddsOperandAndCarryToAccumulator : Prop :=
  ∀ (i : Instr) (o : Operand) (s : State), i.form = .adc o →
    encode i = [BitVec.ofNat 8 (0x88 + o.code.toNat)] ∧
    exec i s = .next { s with
      regs := { s.regs with a := BitVec.ofNat 8 (s.regs.a.toNat + (s.readOperand o).toNat + s.flags.cy.toNat) }
      flags := resultFlags (BitVec.ofNat 8 (s.regs.a.toNat + (s.readOperand o).toNat + s.flags.cy.toNat))
        (decide (s.regs.a.toNat + (s.readOperand o).toNat + s.flags.cy.toNat ≥ 256))
        (decide (s.regs.a.toNat % 16 + (s.readOperand o).toNat % 16 + s.flags.cy.toNat ≥ 16))
      pc := s.pc + 1 }

/-! ## The rotates and the carry instructions -/

/-- R160, R161, R162, R163, R167: rlc, rrc, ral and rar; A and CY, and nothing else. -/
def Obligations.RotatesMoveAccumulatorByOneBit : Prop :=
  encode .rlc = [0x07] ∧ encode .rrc = [0x0F] ∧ encode .ral = [0x17] ∧ encode .rar = [0x1F] ∧
  ∀ s : State,
    exec .rlc s = .next { s with
      regs := { s.regs with a := BitVec.ofNat 8 (s.regs.a.toNat * 2 + s.regs.a.toNat / 128) }
      flags := { s.flags with cy := decide (s.regs.a.toNat ≥ 128) }
      pc := s.pc + 1 } ∧
    exec .rrc s = .next { s with
      regs := { s.regs with a := BitVec.ofNat 8 (s.regs.a.toNat / 2 + s.regs.a.toNat % 2 * 128) }
      flags := { s.flags with cy := decide (s.regs.a.toNat % 2 = 1) }
      pc := s.pc + 1 } ∧
    exec .ral s = .next { s with
      regs := { s.regs with a := BitVec.ofNat 8 (s.regs.a.toNat * 2 + s.flags.cy.toNat) }
      flags := { s.flags with cy := decide (s.regs.a.toNat ≥ 128) }
      pc := s.pc + 1 } ∧
    exec .rar s = .next { s with
      regs := { s.regs with a := BitVec.ofNat 8 (s.regs.a.toNat / 2 + s.flags.cy.toNat * 128) }
      flags := { s.flags with cy := decide (s.regs.a.toNat % 2 = 1) }
      pc := s.pc + 1 }

/-- The corner cases of R160 to R163: A is an 8-bit ring under RLC, A and CY a 9-bit ring under RAL, and each right rotate
undoes its left one. -/
def Obligations.RotatesAreRings : Prop :=
  ∀ s : State,
    (∃ t : State, execTimes .rlc 8 s = .next t ∧ t.regs = s.regs) ∧
    (∃ t : State, execTimes .ral 9 s = .next t ∧ t.regs = s.regs ∧ t.flags = s.flags) ∧
    (∃ t u : State, exec .rlc s = .next t ∧ exec .rrc t = .next u ∧ u.regs = s.regs) ∧
    ∃ t u : State, exec .ral s = .next t ∧ exec .rar t = .next u ∧ u.regs = s.regs ∧ u.flags = s.flags

/-- R164, R165, R166: cma, cmc and stc. -/
def Obligations.CmaCmcStcChangeOneThing : Prop :=
  encode .cma = [0x2F] ∧ encode .cmc = [0x3F] ∧ encode .stc = [0x37] ∧
  ∀ s : State,
    exec .cma s = .next { s with regs := { s.regs with a := BitVec.ofNat 8 (255 - s.regs.a.toNat) }, pc := s.pc + 1 } ∧
    exec .cmc s = .next { s with flags := { s.flags with cy := !s.flags.cy }, pc := s.pc + 1 } ∧
    exec .stc s = .next { s with flags := { s.flags with cy := true }, pc := s.pc + 1 }

/-! ## The trap -/

/-- R170, R203 (at the level of `exec`): the latch and the two recorded values, and nothing else. -/
def Obligations.TrapRecordsOpcodeAndPc : Prop :=
  ∀ (op : Byte) (s : State), isTrapOpcode op = true →
    exec (.trap op) s = .next { s with trapped := true, trapOpcode := op, trapPc := s.pc }

/-- R112, R203 (at the level of `step`): fetching a trapping opcode takes the trap, whatever bytes follow it, and the TRAP
interface reports UnimplementedOpcode, the opcode and its address (R10, R201). -/
def Obligations.FetchingTrapOpcodeTakesTrap : Prop :=
  ∀ s : State, s.trapped = false → isTrapOpcode (s.readByte s.pc) = true →
    ∃ t : State, step s = .next t ∧
      t = { s with trapped := true, trapOpcode := s.readByte s.pc, trapPc := s.pc } ∧
      t.trapReport = some { kind := .unimplementedOpcode, opcode := s.readByte s.pc, pc := s.pc }

/-- R117: no step is enabled while TRAPPED = 1, and no number of requests changes that, the host doing nothing between them
(log 8). That the request is refused, by this name, is the model's form of it (log 3). -/
def Obligations.NoStepWhileTrapped : Prop :=
  ∀ s : State, s.trapped = true →
    step s = .refused .trappedNoStep ∧ ∀ n : Nat, Sys2Proof.core.run (n + 1) s = .refused Refusal.trappedNoStep

/-- R201: a step traps exactly when the opcode byte it fetched is a trapping one. -/
def Obligations.OnlyTrapOpcodesTrap : Prop :=
  ∀ s t : State, step s = .next t → (t.trapped = true ↔ isTrapOpcode (s.readByte s.pc) = true)

/-! ## Decoding and encoding -/

/-- Every well-formed instruction decodes from its encoding, with the bytes after it left over. -/
def Obligations.DecodeInvertsEncode : Prop :=
  ∀ (i : Instr) (rest : List Byte), i.wellFormed = true → decode (encode i ++ rest) = .ok (i, rest)

/-- Whatever the decoder accepts is a well-formed instruction whose encoding is the bytes it took. -/
def Obligations.EncodeInvertsDecode : Prop :=
  ∀ (bytes rest : List Byte) (i : Instr), decode bytes = .ok (i, rest) → i.wellFormed = true ∧ encode i ++ rest = bytes

/-- A few words written out from the encodings of R71 (sanity). -/
def Obligations.SampleWordsDecode : Prop :=
  decode [0b00000000] = .ok (.nop, []) ∧
  decode [0b00000001, 0x34, 0x12] = .ok (.lxiB 0x1234, []) ∧
  decode [0b00111110, 0x42] = .ok (.mviA 0x42, []) ∧
  decode [0b01000001] = .ok (.movBC, []) ∧
  decode [0b01110111] = .ok (.movMA, []) ∧
  decode [0b10001110] = .ok (.adcM, []) ∧
  decode [0b00110101] = .ok (.dcrM, []) ∧
  decode [0b00101001] = .ok (.dadH, []) ∧
  decode [0b00010111] = .ok (.ral, []) ∧
  decode [0b01110110] = .ok (.trap 0x76, [])

/-- R79: the trapping opcodes are the listed values, 121 of them, and the table traps on exactly those. -/
def Obligations.TableTrapsOnTheListedOpcodes : Prop :=
  (∀ op byte2 byte3 : Byte, (decodeOpcode op).instr op byte2 byte3 = .trap op ↔
    (op ∈ ([0x08, 0x10, 0x18, 0x20, 0x27, 0x28, 0x30, 0x38, 0x76] : List Byte) ∨ 0x90 ≤ op.toNat)) ∧
  ((List.range 256).filter fun n => isTrapOpcode (BitVec.ofNat 8 n)).length = 121

/-- R196: the groups of R171 to R193 have the sizes stated, and together they are the trapping opcodes. -/
def Obligations.TrapGroupsAddUpTo121 : Prop :=
  (∀ op : Byte, (trapGroup op).isSome = isTrapOpcode op) ∧
  ([.sub, .sbb, .ana, .xra, .ora, .cmp, .immediate, .jump, .call, .ret, .rst, .pchl, .push, .pop, .inOut, .xthlSphl, .xchg,
    .hlt, .daa, .ei, .di, .rimSim, .unassigned] : List TrapGroup).map
      (fun g => ((List.range 256).filter fun n => trapGroup (BitVec.ofNat 8 n) == some g).length) =
    [8, 8, 8, 8, 8, 8, 8, 9, 9, 9, 8, 1, 4, 4, 2, 2, 1, 1, 1, 1, 1, 2, 10]

/-! ## The step -/

/-- A step runs the decoded instruction: where the bytes at the program counter decode to a well-formed instruction, the step
of an untrapped machine is `exec` of it, with nothing around it (the advance stands in each meaning, log 7). -/
def Obligations.StepRunsTheDecodedInstruction : Prop :=
  ∀ (s : State) (i : Instr) (rest : List Byte), s.trapped = false → i.wellFormed = true →
    decode (s.bytesFrom s.pc 3) = .ok (i, rest) → step s = exec i s

/-- R113, R118, R203: an untrapped machine always steps, and no step of any state faults. For a trapping opcode this rests on
the model's choice that the trap is a next state and no fault (log 3); the two names of `Fault` are never answered (log 10). -/
def Obligations.UntrappedMachineAlwaysSteps : Prop :=
  ∀ s : State, (s.trapped = false → ∃ t : State, step s = .next t) ∧ ∀ r : Fault, step s ≠ .fault r

/-- R114: a step that does not trap adds the instruction's length to the program counter; a step that traps leaves it. -/
def Obligations.StepAdvancesPcByLength : Prop :=
  ∀ s t : State, step s = .next t →
    t.pc = if isTrapOpcode (s.readByte s.pc) then s.pc else s.pc + BitVec.ofNat 16 (opcodeLength (s.readByte s.pc))

/-- R33, R205: no step changes INTE. -/
def Obligations.NoStepChangesInte : Prop :=
  ∀ s t : State, step s = .next t → t.inte = s.inte

/-- R24: only LXI SP, INX SP and DCX SP change SP. -/
def Obligations.OnlySpFormsChangeSp : Prop :=
  ∀ s t : State, step s = .next t → t.sp ≠ s.sp → s.readByte s.pc ∈ ([0x31, 0x33, 0x3B] : List Byte)

/-- R27, R30: a flag changes only where the table has a w: Z, S, P and AC under INR, DCR, ADD and ADC; CY under DAD, ADD, ADC,
the rotates, STC and CMC. -/
def Obligations.FlagsChangeOnlyAsTabled : Prop :=
  ∀ s t : State, step s = .next t →
    (t.flags.z ≠ s.flags.z ∨ t.flags.s ≠ s.flags.s ∨ t.flags.p ≠ s.flags.p ∨ t.flags.ac ≠ s.flags.ac →
      s.readByte s.pc &&& 0xC7 = 0x04 ∨ s.readByte s.pc &&& 0xC7 = 0x05 ∨ s.readByte s.pc &&& 0xF0 = 0x80) ∧
    (t.flags.cy ≠ s.flags.cy →
      s.readByte s.pc &&& 0xCF = 0x09 ∨ s.readByte s.pc &&& 0xF0 = 0x80 ∨
        s.readByte s.pc ∈ ([0x07, 0x0F, 0x17, 0x1F, 0x37, 0x3F] : List Byte))

/-- R59: a byte of memory changes only under a storing instruction, and only at the address that instruction stores to. -/
def Obligations.MemoryChangesOnlyAtStoreAddresses : Prop :=
  ∀ (s t : State) (x : Word), step s = .next t → t.readByte x ≠ s.readByte x →
    (((s.readByte s.pc &&& 0xF8 = 0x70 ∧ s.readByte s.pc ≠ 0x76) ∨ s.readByte s.pc ∈ ([0x34, 0x35, 0x36] : List Byte)) ∧
      x = addressHL s) ∨
    (s.readByte s.pc = 0x02 ∧ x.toNat = s.regs.b.toNat * 256 + s.regs.c.toNat) ∨
    (s.readByte s.pc = 0x12 ∧ x.toNat = s.regs.d.toNat * 256 + s.regs.e.toNat) ∨
    (s.readByte s.pc = 0x32 ∧ x = addressOperand s) ∨
    (s.readByte s.pc = 0x22 ∧ (x = addressOperand s ∨ x = addressOperand s + 1))

/-- R66: SHLD stores at the address it fetched before it wrote, even where that is one of its own bytes. -/
def Obligations.ShldUsesTheAddressFetchedBeforeItsWrites : Prop :=
  ∀ s : State, s.trapped = false → s.readByte s.pc = 0x22 →
    ∃ t : State, step s = .next t ∧ t.pc = s.pc + 3 ∧
      t.readByte (addressOperand s) = s.regs.l ∧ t.readByte (addressOperand s + 1) = s.regs.h

/-- R61: a trapping byte that STA stores over the next instruction is the opcode that the next step fetches, where the host does
nothing between the two steps (R7, D21; log 8). -/
def Obligations.StoredOpcodeIsFetchedByTheNextStep : Prop :=
  ∀ s : State, s.trapped = false → s.readByte s.pc = 0x32 → addressOperand s = s.pc + 3 →
    isTrapOpcode s.regs.a = true →
    ∃ t u : State, step s = .next t ∧ step t = .next u ∧
      u = { t with trapped := true, trapOpcode := s.regs.a, trapPc := s.pc + 3 }

/-- R56, R114: LXI H at 0xFFFE takes its third byte from address 0, and the program counter wraps with it. (The other
instructions that straddle the top of memory are under StepRunsTheDecodedInstruction and StepAdvancesPcByLength.) -/
def Obligations.FetchWrapsAtTheTopOfMemory : Prop :=
  ∀ s : State, s.trapped = false → s.pc = 0xFFFE → s.readByte 0xFFFE = 0x21 →
    step s = .next { s with
      regs := { s.regs with l := s.readByte 0xFFFF, h := s.readByte 0x0000 }, pc := 0x0001 }

/-! ## Reset, the host, and the invariant -/

/-- R40: the values reset gives, in `State.reset` and at a launch with any memory, and the host's loaded state in their place
where there is one; memory is the host's (the values of TRAP_OPCODE and TRAP_PC are not stated, log 2). -/
def Obligations.ResetZeroesTheCpuState : Prop :=
  cpuZeroed State.reset ∧
    ∀ (m : Memory) (o : StateOverride),
      (State.launch m none).mem = m ∧ cpuZeroed (State.launch m none) ∧
      (State.launch m (some o)).mem = m ∧ (State.launch m (some o)).trapped = false ∧
      (State.launch m (some o)).regs = o.regs ∧ (State.launch m (some o)).sp = o.sp ∧
      (State.launch m (some o)).pc = o.pc ∧ (State.launch m (some o)).flags = o.flags ∧
      (State.launch m (some o)).inte = o.inte

/-- R220, R221: a host reset leaves memory, clears TRAPPED, and gives every register its reset value or the loaded one; a step is
then possible again. -/
def Obligations.HostResetClearsTrapAndKeepsMemory : Prop :=
  ∀ (s : State) (o : StateOverride),
    s.hostReset.mem = s.mem ∧ s.hostReset.trapped = false ∧ s.hostReset.regs = State.reset.regs ∧ s.hostReset.sp = 0 ∧
    s.hostReset.pc = 0 ∧ s.hostReset.flags = State.reset.flags ∧ s.hostReset.inte = false ∧
    (∃ t : State, step s.hostReset = .next t) ∧
    (s.hostResetWith o).mem = s.mem ∧ (s.hostResetWith o).trapped = false ∧ (s.hostResetWith o).regs = o.regs ∧
    (s.hostResetWith o).sp = o.sp ∧ (s.hostResetWith o).pc = o.pc ∧ (s.hostResetWith o).flags = o.flags ∧
    (s.hostResetWith o).inte = o.inte ∧ ∃ t : State, step (s.hostResetWith o) = .next t

/-- The invariant holds at reset. -/
def Obligations.ResetMeetsInvariant : Prop := State.reset.Inv

/-- Every step keeps the invariant: memory stays in canonical form, and a recorded trap names the opcode byte at the program
counter, a trapping one (R203, note D8; the canonical form is the model's own, log 11). -/
def Obligations.EveryStepKeepsInvariant : Prop :=
  ∀ s t : State, s.Inv → step s = .next t → t.Inv

/-- A run of any length from any state, the host doing nothing between its steps (D21; log 8), never faults, and is turned away
only because the machine trapped (R113, R117). That the trap is a next state and the step after it a refusal, neither a fault,
is the model's choice (log 3). -/
def Obligations.EveryRunIsSafe : Prop :=
  ∀ (n : Nat) (s : State), SafeRun n s
end

