-- ==== Sys2Proof/Laws/Units.lean ====
section
/-! SUPPORT. What the codec and the adder compute, in numbers. -/

namespace Sys2Proof

theorem pack_toNat (high low : Byte) : (pack high low).toNat = high.toNat * 256 + low.toNat := by
  simp only [pack, BitVec.toNat_append, Nat.shiftLeft_eq]
  rw [Nat.mul_comm, ← Nat.two_pow_add_eq_or_of_lt low.isLt]

theorem unpack_high_toNat (v : Word) : (unpack v).1.toNat = v.toNat / 256 := by
  have := v.isLt
  simp only [unpack, BitVec.extractLsb'_toNat, Nat.shiftRight_eq_div_pow]
  omega

theorem unpack_low_toNat (v : Word) : (unpack v).2.toNat = v.toNat % 256 := by
  simp [unpack, BitVec.extractLsb'_toNat]

namespace Machine

@[simp] theorem addWithCarry_result {w : Nat} (a b : BitVec w) (cin : Bool) :
    (addWithCarry a b cin).result = BitVec.ofNat w (a.toNat + b.toNat + cin.toNat) := rfl

/-- Without a carry-in the result is the machine sum (R91). -/
theorem addWithCarry_result_add {w : Nat} (a b : BitVec w) : (addWithCarry a b false).result = a + b := by
  apply BitVec.eq_of_toNat_eq
  simp [addWithCarry]

theorem addWithCarry_carryOut {w : Nat} (a b : BitVec w) (cin : Bool) :
    (addWithCarry a b cin).carryOut = decide (2 ^ w ≤ a.toNat + b.toNat + cin.toNat) := rfl

theorem addWithCarry_auxCarryOut {w : Nat} (a b : BitVec w) (cin : Bool) :
    (addWithCarry a b cin).auxCarryOut = decide (16 ≤ a.toNat % 16 + b.toNat % 16 + cin.toNat) := rfl

@[simp] theorem negate_one_byte : (negate 1 : Byte) = 0xFF := rfl

@[simp] theorem negate_one_word : (negate 1 : Word) = 0xFFFF := rfl

end Machine

end Sys2Proof
end

