-- ==== Sys2Proof/Laws/Decode.lean ====
section
/-! SUPPORT. How to prove a fact about every opcode byte, and what the decoder does with an entry. -/

namespace Sys2Proof

/-- A fact about every opcode byte is a fact about the 256 numbers. -/
theorem forall_byte {P : Byte → Prop} (h : ∀ n : Fin 256, P (BitVec.ofFin n)) (op : Byte) : P op := h op.toFin

/-- A trapping opcode is one byte long to the dispatcher (R70, R170). -/
theorem decodeOpcode_length_of_trap (op : Byte) : isTrapOpcode op = true → (decodeOpcode op).length = 1 :=
  forall_byte (P := fun op => isTrapOpcode op = true → (decodeOpcode op).length = 1) (by decide +kernel) op

/-- The decoder, given enough bytes, answers the entry's instruction and drops the entry's length (R70, R112). -/
theorem decode_three (op byte2 byte3 : Byte) (rest : List Byte) :
    decode (op :: byte2 :: byte3 :: rest) =
      .ok ((decodeOpcode op).instr op byte2 byte3, (op :: byte2 :: byte3 :: rest).drop (decodeOpcode op).length) := by
  simp only [decode]
  cases decodeOpcode op <;> rfl

end Sys2Proof
end

