-- ==== Sys2Proof/Laws/Memory.lean ====
section
/-! SUPPORT. Reading what was stored, and that every memory operation keeps the canonical form. -/

namespace Sys2Proof.Machine

/-! ## Reading after an operation -/

@[simp] theorem Memory.lookup_nil (k : Nat) : Memory.lookup [] k = Memory.unlistedByte := rfl

theorem Memory.lookup_cons (j k : Nat) (v : Byte) (m : Memory) :
    Memory.lookup ((j, v) :: m) k = if j = k then v else Memory.lookup m k := rfl

/-- An erased address reads as an unlisted one. -/
theorem Memory.lookup_erase_same (m : Memory) (k : Nat) : (m.erase k).lookup k = Memory.unlistedByte := by
  induction m with
  | nil => rfl
  | cons cell m ih =>
    obtain ⟨j, v⟩ := cell
    by_cases h : j = k
    · simpa [Memory.erase, h] using ih
    · simpa [Memory.erase, h, Memory.lookup] using ih

/-- Erasing one address leaves every other. -/
theorem Memory.lookup_erase_other (m : Memory) {j k : Nat} (h : j ≠ k) : (m.erase k).lookup j = m.lookup j := by
  induction m with
  | nil => rfl
  | cons cell m ih =>
    obtain ⟨i, v⟩ := cell
    by_cases hi : i = k
    · have hij : ¬ i = j := fun e => h (e.symm.trans hi)
      rw [Memory.lookup_cons, if_neg hij, ← ih]
      simp [Memory.erase, hi]
    · have : Memory.erase ((i, v) :: m) k = (i, v) :: Memory.erase m k := by simp [Memory.erase, hi]
      rw [this, Memory.lookup_cons, Memory.lookup_cons, ih]

/-- Listing a byte for an address that no cell lists decides that address and no other. -/
theorem Memory.lookup_insertCell (m : Memory) (j k : Nat) (v : Byte) (h : ∀ cell ∈ m, cell.1 ≠ k) :
    (m.insertCell k v).lookup j = if j = k then v else m.lookup j := by
  induction m with
  | nil => simp [Memory.insertCell, Memory.lookup, eq_comm]
  | cons cell m ih =>
    obtain ⟨i, w⟩ := cell
    have hik : i ≠ k := h (i, w) (by simp)
    have ih := ih fun c hc => h c (by simp [hc])
    by_cases hlt : k < i
    · simp only [Memory.insertCell, hlt, if_true, Memory.lookup_cons, eq_comm (a := k)]
    · simp only [Memory.insertCell, hlt, if_false, Memory.lookup_cons, ih]
      by_cases hij : i = j
      · have : j ≠ k := hij ▸ hik
        simp [hij, this]
      · simp [hij]

theorem Memory.erase_keys (m : Memory) (k : Nat) : ∀ cell ∈ m.erase k, cell.1 ≠ k := by
  intro cell h
  simpa [Memory.erase] using (List.mem_filter.mp h).2

/-- The law of memory: a store decides its own address and leaves every other (R53). It holds of every list, in canonical form
or not. -/
theorem Memory.lookup_store (m : Memory) (j k : Nat) (v : Byte) :
    (m.store k v).lookup j = if j = k then v else m.lookup j := by
  unfold Memory.store
  by_cases hv : v = Memory.unlistedByte
  · rw [if_pos hv]
    by_cases hj : j = k
    · rw [if_pos hj, hj, Memory.lookup_erase_same, hv]
    · rw [if_neg hj, Memory.lookup_erase_other m hj]
  · rw [if_neg hv, Memory.lookup_insertCell _ _ _ _ (m.erase_keys k)]
    by_cases hj : j = k
    · rw [if_pos hj, if_pos hj]
    · rw [if_neg hj, if_neg hj, Memory.lookup_erase_other m hj]

/-! ## The canonical form -/

theorem Memory.wf_nil : Memory.wf [] := by simp [Memory.wf]

theorem Memory.wf_erase {m : Memory} (h : m.wf) (k : Nat) : (m.erase k).wf :=
  ⟨h.1.filter _, fun cell hc => h.2 cell (List.mem_filter.mp hc).1⟩

/-- Where the cells of an insertion come from. -/
theorem Memory.mem_insertCell {m : Memory} {k : Nat} {v : Byte} {cell : Host.Cell} (h : cell ∈ m.insertCell k v) :
    cell = (k, v) ∨ cell ∈ m := by
  induction m with
  | nil => simpa [Memory.insertCell] using h
  | cons c m ih =>
    obtain ⟨i, w⟩ := c
    by_cases hlt : k < i
    · simpa [Memory.insertCell, hlt] using h
    · simp only [Memory.insertCell, hlt, if_false, List.mem_cons] at h
      rcases h with h | h
      · exact .inr (by simp [h])
      · exact (ih h).imp id fun hm => by simp [hm]

theorem Memory.wf_insertCell {m : Memory} (h : m.wf) {k : Nat} {v : Byte} (hk : k < 65536) (hv : v ≠ Memory.unlistedByte)
    (hfresh : ∀ cell ∈ m, cell.1 ≠ k) : (m.insertCell k v).wf := by
  refine ⟨?_, fun cell hc => ?_⟩
  · obtain ⟨hs, -⟩ := h
    induction m with
    | nil => simp [Memory.insertCell]
    | cons c m ih =>
      obtain ⟨i, w⟩ := c
      rw [List.pairwise_cons] at hs
      by_cases hlt : k < i
      · simp only [Memory.insertCell, hlt, if_true, List.pairwise_cons]
        refine ⟨fun c hc => ?_, hs.1, hs.2⟩
        rcases List.mem_cons.mp hc with rfl | hc
        · exact hlt
        · exact hlt.trans (hs.1 c hc)
      · have hik : i < k := lt_of_le_of_ne (not_lt.mp hlt) (hfresh (i, w) (by simp))
        simp only [Memory.insertCell, hlt, if_false, List.pairwise_cons]
        refine ⟨fun c hc => ?_, ih (fun c hc => hfresh c (by simp [hc])) hs.2⟩
        rcases Memory.mem_insertCell hc with rfl | hc
        · exact hik
        · exact hs.1 c hc
  · rcases Memory.mem_insertCell hc with rfl | hc
    · exact ⟨hk, hv⟩
    · exact h.2 cell hc

/-- A store keeps the canonical form. -/
theorem Memory.wf_store {m : Memory} (h : m.wf) {k : Nat} (hk : k < 65536) (v : Byte) : (m.store k v).wf := by
  unfold Memory.store
  split
  · exact Memory.wf_erase h k
  · next hv => exact Memory.wf_insertCell (Memory.wf_erase h k) hk hv (m.erase_keys k)

/-! ## The same laws for the state's byte and word accesses (R52 to R55) -/

/-- `MemRead` after `MemWrite` (R52, R53). -/
theorem State.readByte_writeByte (s : State) (a x : Word) (v : Byte) :
    (s.writeByte a v).readByte x = if x = a then v else s.readByte x := by
  have : x.toNat = a.toNat ↔ x = a := BitVec.toNat_inj
  simp only [State.readByte, State.writeByte, Memory.lookup_store, this]

/-- Byte reads after a word write: each of the two addresses reads its half, every other address as before (R55, R57). -/
theorem State.readByte_writeWord (s : State) (a x v : Word) :
    (s.writeWord a v).readByte x = if x = a + 1 then (unpack v).1 else if x = a then (unpack v).2 else s.readByte x := by
  simp only [State.writeWord, State.readByte_writeByte]

theorem State.wf_writeByte {s : State} (h : s.mem.wf) (a : Word) (v : Byte) : (s.writeByte a v).mem.wf :=
  Memory.wf_store h a.isLt v

theorem State.wf_writeWord {s : State} (h : s.mem.wf) (a v : Word) : (s.writeWord a v).mem.wf :=
  State.wf_writeByte (State.wf_writeByte h _ _) _ _

end Sys2Proof.Machine
end

