-- ==== Sys2Proof/Laws/State.lean ====
section
/-! SUPPORT. One lemma per field per update of the state, so that no proof unfolds a record update. -/

namespace Sys2Proof.Machine

/-! ## Updates of one field -/

@[simp] theorem State.writeByte_regs (s : State) (a : Word) (v : Byte) : (s.writeByte a v).regs = s.regs := rfl
@[simp] theorem State.writeByte_sp (s : State) (a : Word) (v : Byte) : (s.writeByte a v).sp = s.sp := rfl
@[simp] theorem State.writeByte_pc (s : State) (a : Word) (v : Byte) : (s.writeByte a v).pc = s.pc := rfl
@[simp] theorem State.writeByte_flags (s : State) (a : Word) (v : Byte) : (s.writeByte a v).flags = s.flags := rfl
@[simp] theorem State.writeByte_inte (s : State) (a : Word) (v : Byte) : (s.writeByte a v).inte = s.inte := rfl
@[simp] theorem State.writeByte_trapped (s : State) (a : Word) (v : Byte) : (s.writeByte a v).trapped = s.trapped := rfl
@[simp] theorem State.writeByte_trapOpcode (s : State) (a : Word) (v : Byte) : (s.writeByte a v).trapOpcode = s.trapOpcode := rfl
@[simp] theorem State.writeByte_trapPc (s : State) (a : Word) (v : Byte) : (s.writeByte a v).trapPc = s.trapPc := rfl
@[simp] theorem State.writeByte_mem (s : State) (a : Word) (v : Byte) : (s.writeByte a v).mem = s.mem.store a.toNat v := rfl

@[simp] theorem State.advance_regs (s : State) (n : Word) : (s.advance n).regs = s.regs := rfl
@[simp] theorem State.advance_sp (s : State) (n : Word) : (s.advance n).sp = s.sp := rfl
@[simp] theorem State.advance_pc (s : State) (n : Word) : (s.advance n).pc = s.pc + n := rfl
@[simp] theorem State.advance_flags (s : State) (n : Word) : (s.advance n).flags = s.flags := rfl
@[simp] theorem State.advance_inte (s : State) (n : Word) : (s.advance n).inte = s.inte := rfl
@[simp] theorem State.advance_trapped (s : State) (n : Word) : (s.advance n).trapped = s.trapped := rfl
@[simp] theorem State.advance_trapOpcode (s : State) (n : Word) : (s.advance n).trapOpcode = s.trapOpcode := rfl
@[simp] theorem State.advance_trapPc (s : State) (n : Word) : (s.advance n).trapPc = s.trapPc := rfl
@[simp] theorem State.advance_mem (s : State) (n : Word) : (s.advance n).mem = s.mem := rfl

@[simp] theorem State.writeFlags_regs (s : State) (f : Flags) : (s.writeFlags f).regs = s.regs := rfl
@[simp] theorem State.writeFlags_sp (s : State) (f : Flags) : (s.writeFlags f).sp = s.sp := rfl
@[simp] theorem State.writeFlags_pc (s : State) (f : Flags) : (s.writeFlags f).pc = s.pc := rfl
@[simp] theorem State.writeFlags_flags (s : State) (f : Flags) : (s.writeFlags f).flags = f := rfl
@[simp] theorem State.writeFlags_inte (s : State) (f : Flags) : (s.writeFlags f).inte = s.inte := rfl
@[simp] theorem State.writeFlags_trapped (s : State) (f : Flags) : (s.writeFlags f).trapped = s.trapped := rfl
@[simp] theorem State.writeFlags_trapOpcode (s : State) (f : Flags) : (s.writeFlags f).trapOpcode = s.trapOpcode := rfl
@[simp] theorem State.writeFlags_trapPc (s : State) (f : Flags) : (s.writeFlags f).trapPc = s.trapPc := rfl
@[simp] theorem State.writeFlags_mem (s : State) (f : Flags) : (s.writeFlags f).mem = s.mem := rfl

@[simp] theorem State.setCarry_regs (s : State) (cy : Bool) : (s.setCarry cy).regs = s.regs := rfl
@[simp] theorem State.setCarry_sp (s : State) (cy : Bool) : (s.setCarry cy).sp = s.sp := rfl
@[simp] theorem State.setCarry_pc (s : State) (cy : Bool) : (s.setCarry cy).pc = s.pc := rfl
@[simp] theorem State.setCarry_flags (s : State) (cy : Bool) : (s.setCarry cy).flags = { s.flags with cy := cy } := rfl
@[simp] theorem State.setCarry_inte (s : State) (cy : Bool) : (s.setCarry cy).inte = s.inte := rfl
@[simp] theorem State.setCarry_trapped (s : State) (cy : Bool) : (s.setCarry cy).trapped = s.trapped := rfl
@[simp] theorem State.setCarry_trapOpcode (s : State) (cy : Bool) : (s.setCarry cy).trapOpcode = s.trapOpcode := rfl
@[simp] theorem State.setCarry_trapPc (s : State) (cy : Bool) : (s.setCarry cy).trapPc = s.trapPc := rfl
@[simp] theorem State.setCarry_mem (s : State) (cy : Bool) : (s.setCarry cy).mem = s.mem := rfl

@[simp] theorem State.applyFlags_regs (s : State) (m : FlagMask) (v : Word) : (s.applyFlags m v).regs = s.regs := rfl
@[simp] theorem State.applyFlags_sp (s : State) (m : FlagMask) (v : Word) : (s.applyFlags m v).sp = s.sp := rfl
@[simp] theorem State.applyFlags_pc (s : State) (m : FlagMask) (v : Word) : (s.applyFlags m v).pc = s.pc := rfl
@[simp] theorem State.applyFlags_flags (s : State) (m : FlagMask) (v : Word) : (s.applyFlags m v).flags = s.flags.apply m v := rfl
@[simp] theorem State.applyFlags_inte (s : State) (m : FlagMask) (v : Word) : (s.applyFlags m v).inte = s.inte := rfl
@[simp] theorem State.applyFlags_trapped (s : State) (m : FlagMask) (v : Word) : (s.applyFlags m v).trapped = s.trapped := rfl
@[simp] theorem State.applyFlags_trapOpcode (s : State) (m : FlagMask) (v : Word) : (s.applyFlags m v).trapOpcode = s.trapOpcode := rfl
@[simp] theorem State.applyFlags_trapPc (s : State) (m : FlagMask) (v : Word) : (s.applyFlags m v).trapPc = s.trapPc := rfl
@[simp] theorem State.applyFlags_mem (s : State) (m : FlagMask) (v : Word) : (s.applyFlags m v).mem = s.mem := rfl

@[simp] theorem State.writeReg_regs (s : State) (r : Reg) (v : Byte) : (s.writeReg r v).regs = s.regs.write r v := rfl
@[simp] theorem State.writeReg_sp (s : State) (r : Reg) (v : Byte) : (s.writeReg r v).sp = s.sp := rfl
@[simp] theorem State.writeReg_pc (s : State) (r : Reg) (v : Byte) : (s.writeReg r v).pc = s.pc := rfl
@[simp] theorem State.writeReg_flags (s : State) (r : Reg) (v : Byte) : (s.writeReg r v).flags = s.flags := rfl
@[simp] theorem State.writeReg_inte (s : State) (r : Reg) (v : Byte) : (s.writeReg r v).inte = s.inte := rfl
@[simp] theorem State.writeReg_trapped (s : State) (r : Reg) (v : Byte) : (s.writeReg r v).trapped = s.trapped := rfl
@[simp] theorem State.writeReg_trapOpcode (s : State) (r : Reg) (v : Byte) : (s.writeReg r v).trapOpcode = s.trapOpcode := rfl
@[simp] theorem State.writeReg_trapPc (s : State) (r : Reg) (v : Byte) : (s.writeReg r v).trapPc = s.trapPc := rfl
@[simp] theorem State.writeReg_mem (s : State) (r : Reg) (v : Byte) : (s.writeReg r v).mem = s.mem := rfl

/-! ## Updates chosen by a code -/

@[simp] theorem State.writePair_pc (s : State) (p : Pair) (v : Word) : (s.writePair p v).pc = s.pc := by cases p <;> rfl
@[simp] theorem State.writePair_flags (s : State) (p : Pair) (v : Word) : (s.writePair p v).flags = s.flags := by cases p <;> rfl
@[simp] theorem State.writePair_inte (s : State) (p : Pair) (v : Word) : (s.writePair p v).inte = s.inte := by cases p <;> rfl
@[simp] theorem State.writePair_trapped (s : State) (p : Pair) (v : Word) : (s.writePair p v).trapped = s.trapped := by cases p <;> rfl
@[simp] theorem State.writePair_trapOpcode (s : State) (p : Pair) (v : Word) : (s.writePair p v).trapOpcode = s.trapOpcode := by cases p <;> rfl
@[simp] theorem State.writePair_trapPc (s : State) (p : Pair) (v : Word) : (s.writePair p v).trapPc = s.trapPc := by cases p <;> rfl
@[simp] theorem State.writePair_mem (s : State) (p : Pair) (v : Word) : (s.writePair p v).mem = s.mem := by cases p <;> rfl

@[simp] theorem State.writeOperand_sp (s : State) (o : Operand) (v : Byte) : (s.writeOperand o v).sp = s.sp := by cases o <;> rfl
@[simp] theorem State.writeOperand_pc (s : State) (o : Operand) (v : Byte) : (s.writeOperand o v).pc = s.pc := by cases o <;> rfl
@[simp] theorem State.writeOperand_flags (s : State) (o : Operand) (v : Byte) : (s.writeOperand o v).flags = s.flags := by cases o <;> rfl
@[simp] theorem State.writeOperand_inte (s : State) (o : Operand) (v : Byte) : (s.writeOperand o v).inte = s.inte := by cases o <;> rfl
@[simp] theorem State.writeOperand_trapped (s : State) (o : Operand) (v : Byte) : (s.writeOperand o v).trapped = s.trapped := by cases o <;> rfl
@[simp] theorem State.writeOperand_trapOpcode (s : State) (o : Operand) (v : Byte) : (s.writeOperand o v).trapOpcode = s.trapOpcode := by cases o <;> rfl
@[simp] theorem State.writeOperand_trapPc (s : State) (o : Operand) (v : Byte) : (s.writeOperand o v).trapPc = s.trapPc := by cases o <;> rfl

@[simp] theorem State.writeWord_regs (s : State) (a v : Word) : (s.writeWord a v).regs = s.regs := rfl
@[simp] theorem State.writeWord_sp (s : State) (a v : Word) : (s.writeWord a v).sp = s.sp := rfl
@[simp] theorem State.writeWord_pc (s : State) (a v : Word) : (s.writeWord a v).pc = s.pc := rfl
@[simp] theorem State.writeWord_flags (s : State) (a v : Word) : (s.writeWord a v).flags = s.flags := rfl
@[simp] theorem State.writeWord_inte (s : State) (a v : Word) : (s.writeWord a v).inte = s.inte := rfl
@[simp] theorem State.writeWord_trapped (s : State) (a v : Word) : (s.writeWord a v).trapped = s.trapped := rfl
@[simp] theorem State.writeWord_trapOpcode (s : State) (a v : Word) : (s.writeWord a v).trapOpcode = s.trapOpcode := rfl
@[simp] theorem State.writeWord_trapPc (s : State) (a v : Word) : (s.writeWord a v).trapPc = s.trapPc := rfl
@[simp] theorem State.writeWord_mem (s : State) (a v : Word) : (s.writeWord a v).mem = (s.mem.store a.toNat (unpack v).2).store (a + 1).toNat (unpack v).1 := rfl

/-! ## The trap and the host's reset -/

@[simp] theorem State.takeTrap_regs (s : State) (op : Byte) : (s.takeTrap op).regs = s.regs := rfl
@[simp] theorem State.takeTrap_sp (s : State) (op : Byte) : (s.takeTrap op).sp = s.sp := rfl
@[simp] theorem State.takeTrap_pc (s : State) (op : Byte) : (s.takeTrap op).pc = s.pc := rfl
@[simp] theorem State.takeTrap_flags (s : State) (op : Byte) : (s.takeTrap op).flags = s.flags := rfl
@[simp] theorem State.takeTrap_inte (s : State) (op : Byte) : (s.takeTrap op).inte = s.inte := rfl
@[simp] theorem State.takeTrap_trapped (s : State) (op : Byte) : (s.takeTrap op).trapped = true := rfl
@[simp] theorem State.takeTrap_trapOpcode (s : State) (op : Byte) : (s.takeTrap op).trapOpcode = op := rfl
@[simp] theorem State.takeTrap_trapPc (s : State) (op : Byte) : (s.takeTrap op).trapPc = s.pc := rfl
@[simp] theorem State.takeTrap_mem (s : State) (op : Byte) : (s.takeTrap op).mem = s.mem := rfl

@[simp] theorem State.hostReset_regs (s : State) : (s.hostReset).regs = State.reset.regs := rfl
@[simp] theorem State.hostReset_sp (s : State) : (s.hostReset).sp = State.reset.sp := rfl
@[simp] theorem State.hostReset_pc (s : State) : (s.hostReset).pc = State.reset.pc := rfl
@[simp] theorem State.hostReset_flags (s : State) : (s.hostReset).flags = State.reset.flags := rfl
@[simp] theorem State.hostReset_inte (s : State) : (s.hostReset).inte = State.reset.inte := rfl
@[simp] theorem State.hostReset_trapped (s : State) : (s.hostReset).trapped = State.reset.trapped := rfl
@[simp] theorem State.hostReset_trapOpcode (s : State) : (s.hostReset).trapOpcode = State.reset.trapOpcode := rfl
@[simp] theorem State.hostReset_trapPc (s : State) : (s.hostReset).trapPc = State.reset.trapPc := rfl
@[simp] theorem State.hostReset_mem (s : State) : (s.hostReset).mem = s.mem := rfl

@[simp] theorem State.hostResetWith_regs (s : State) (o : StateOverride) : (s.hostResetWith o).regs = o.regs := rfl
@[simp] theorem State.hostResetWith_sp (s : State) (o : StateOverride) : (s.hostResetWith o).sp = o.sp := rfl
@[simp] theorem State.hostResetWith_pc (s : State) (o : StateOverride) : (s.hostResetWith o).pc = o.pc := rfl
@[simp] theorem State.hostResetWith_flags (s : State) (o : StateOverride) : (s.hostResetWith o).flags = o.flags := rfl
@[simp] theorem State.hostResetWith_inte (s : State) (o : StateOverride) : (s.hostResetWith o).inte = o.inte := rfl
@[simp] theorem State.hostResetWith_trapped (s : State) (o : StateOverride) : (s.hostResetWith o).trapped = false := rfl
@[simp] theorem State.hostResetWith_trapOpcode (s : State) (o : StateOverride) : (s.hostResetWith o).trapOpcode = 0x00 := rfl
@[simp] theorem State.hostResetWith_trapPc (s : State) (o : StateOverride) : (s.hostResetWith o).trapPc = 0x0000 := rfl
@[simp] theorem State.hostResetWith_mem (s : State) (o : StateOverride) : (s.hostResetWith o).mem = s.mem := rfl

/-! ## The TRAP interface -/

/-- Once the trap is taken the report names UnimplementedOpcode, the opcode and the program counter (R203). -/
@[simp] theorem State.takeTrap_trapReport (s : State) (op : Byte) :
    (s.takeTrap op).trapReport = some { kind := .unimplementedOpcode, opcode := op, pc := s.pc } := rfl

/-- A machine that has not trapped reports nothing (R10). -/
theorem State.trapReport_of_not_trapped (s : State) (h : s.trapped = false) : s.trapReport = none := by
  simp [State.trapReport, h]

/-- The only fault kind ever reported (R200, R201). -/
theorem State.trapReport_kind (s : State) (r : TrapReport) (h : s.trapReport = some r) : r.kind = .unimplementedOpcode := by
  unfold State.trapReport at h
  split at h <;> cases h
  rfl

/-! ## Reading what was written, for a register, a pair and an operand -/

/-- A register write changes that register and no other (R74). -/
theorem Regs.read_write (g : Regs) (r r' : Reg) (v : Byte) : (g.write r v).read r' = if r' = r then v else g.read r' := by
  cases r <;> cases r' <;> rfl

/-- Writing SP as a pair leaves the general registers, and writing a register pair leaves SP (R24). -/
theorem State.writePair_sp (s : State) (p : Pair) (v : Word) : (s.writePair p v).sp = if p = .sp then v else s.sp := by
  cases p <;> rfl

/-- Writing M leaves the registers; writing a register writes that register (R74). -/
theorem State.writeOperand_regs (s : State) (o : Operand) (v : Byte) :
    (s.writeOperand o v).regs = match o with | .reg r => s.regs.write r v | .m => s.regs := by
  cases o <;> rfl

/-- Writing a register leaves memory; writing M writes the byte at HL (R74). -/
theorem State.writeOperand_mem (s : State) (o : Operand) (v : Byte) :
    (s.writeOperand o v).mem =
      match o with | .reg _ => s.mem | .m => s.mem.store (pack s.regs.h s.regs.l).toNat v := by
  cases o <;> rfl

end Sys2Proof.Machine
end

