-- ==== Sys2Proof/Laws/Exec.lean ====
section
/-! SUPPORT. What an instruction can do, said once: each shared operation answers a next state, and that state is an effect
followed by the advance (or, for the trap, the trap entry alone). -/

namespace Sys2Proof.Machine

/-! ## Operands in memory -/

/-- A byte read after an operand write: only M changes a byte, the one at HL (R74). -/
theorem State.readByte_writeOperand (s : State) (o : Operand) (x : Word) (v : Byte) :
    (s.writeOperand o v).readByte x = if o = .m ∧ x = s.readPair .hl then v else s.readByte x := by
  cases o with
  | reg r => simp [State.writeOperand, State.readByte]
  | m => simp [State.writeOperand, State.readByte_writeByte]

/-- An operand write keeps the canonical form of memory. -/
theorem State.wf_writeOperand {s : State} (h : s.mem.wf) (o : Operand) (v : Byte) : (s.writeOperand o v).mem.wf := by
  cases o with
  | reg r => exact h
  | m => exact State.wf_writeByte h _ _

/-! ## The shared operations -/

theorem retire_eq (s : State) (n : Word) : s.retire n = .next (s.advance n) := rfl

theorem move_eq (dst src : Operand) (s : State) :
    move dst src s = .next ((s.writeOperand dst (s.readOperand src)).advance 1) := rfl

theorem moveImmediate_eq (dst : Operand) (d8 : Byte) (s : State) :
    moveImmediate dst d8 s = .next ((s.writeOperand dst d8).advance 2) := rfl

theorem loadPair_eq (rp : Pair) (d16 : Word) (s : State) : loadPair rp d16 s = .next ((s.writePair rp d16).advance 3) := rfl

theorem storeIndirect_eq (rp : Pair) (s : State) :
    storeIndirect rp s = .next ((s.writeByte (s.readPair rp) s.regs.a).advance 1) := rfl

theorem loadIndirect_eq (rp : Pair) (s : State) :
    loadIndirect rp s = .next ((s.writeReg .a (s.readByte (s.readPair rp))).advance 1) := rfl

/-- The state after INR (`delta` 1) or DCR (`delta` 0xFF): the operand, four flags and the program counter (R141 to R144). -/
theorem bump_eq (delta : Byte) (o : Operand) (s : State) :
    bump delta o s =
      .next (((s.writeOperand o (addWithCarry (s.readOperand o) delta false).result).applyFlags
        (FlagMask.zspac (addWithCarry (s.readOperand o) delta false).auxCarryOut)
        ((addWithCarry (s.readOperand o) delta false).result.setWidth 16)).advance 1) := rfl

theorem bumpPair_eq (delta : Word) (rp : Pair) (s : State) :
    bumpPair delta rp s = .next ((s.writePair rp (s.readPair rp + delta)).advance 1) := by
  simp only [bumpPair, addWithCarry_result_add, retire_eq]

theorem doubleAdd_eq (rp : Pair) (s : State) :
    doubleAdd rp s =
      .next (((s.writePair .hl (s.readPair .hl + s.readPair rp)).setCarry
        (addWithCarry (s.readPair .hl) (s.readPair rp) false).carryOut).advance 1) := by
  simp only [doubleAdd, addWithCarry_result_add, retire_eq]
  rfl

theorem addToA_eq (o : Operand) (cin : Bool) (s : State) :
    addToA o cin s =
      .next (((s.writeReg .a (addWithCarry s.regs.a (s.readOperand o) cin).result).applyFlags
        (FlagMask.all (addWithCarry s.regs.a (s.readOperand o) cin).carryOut
          (addWithCarry s.regs.a (s.readOperand o) cin).auxCarryOut)
        ((addWithCarry s.regs.a (s.readOperand o) cin).result.setWidth 16)).advance 1) := rfl

theorem rotated_eq (a : Byte) (cy : Bool) (s : State) :
    rotated a cy s = .next (((s.writeReg .a a).setCarry cy).advance 1) := rfl

/-! ## The meaning of a form -/

/-- The meaning of each form: the shared operation that the instructions of that form call. -/
def formMeaning (f : Form) (s : State) : Result :=
  match f with
  | .nop => s.retire 1
  | .mov dst src => move dst src s
  | .mvi dst d8 => moveImmediate dst d8 s
  | .lxi rp d16 => loadPair rp d16 s
  | .stax rp => storeIndirect rp s
  | .ldax rp => loadIndirect rp s
  | .sta addr => execSta addr s
  | .lda addr => execLda addr s
  | .shld addr => execShld addr s
  | .lhld addr => execLhld addr s
  | .inr dst => increment dst s
  | .dcr dst => decrement dst s
  | .inx rp => incrementPair rp s
  | .dcx rp => decrementPair rp s
  | .dad rp => doubleAdd rp s
  | .add src => addToA src false s
  | .adc src => addToA src s.flags.cy s
  | .rlc => execRlc s
  | .rrc => execRrc s
  | .ral => execRal s
  | .rar => execRar s
  | .cma => execCma s
  | .stc => execStc s
  | .cmc => execCmc s
  | .trap op => execTrap op s

/-- The inversion lemma of `exec`: an instruction does what its form does. Every statement about a family of instructions is a
case split over the 24 forms, not over the 136 constructors. -/
theorem exec_eq_formMeaning (i : Instr) (s : State) : exec i s = formMeaning i.form s := by
  cases i <;> rfl

/-! ## The step -/

theorem step_of_untrapped {s : State} (h : s.trapped = false) : step s = exec s.fetch s := by simp [step, h]

theorem step_of_trapped {s : State} (h : s.trapped = true) : step s = .refused .trappedNoStep := by simp [step, h]

/-- A step that answers a next state ran the fetched instruction of an untrapped machine. -/
theorem step_next {s t : State} (h : step s = .next t) : s.trapped = false ∧ formMeaning s.fetch.form s = .next t := by
  cases hs : s.trapped
  · exact ⟨rfl, by rw [← exec_eq_formMeaning, ← step_of_untrapped hs]; exact h⟩
  · rw [step_of_trapped hs] at h
    cases h

end Sys2Proof.Machine
end

