-- ==== Sys2Proof/Laws/PerInstr.lean ====
section
/-! SUPPORT. The family of facts proved for each constructor of `Instr`: the length of an instruction's encoding is the one
that the table gives its opcode byte, whatever its operands (R70, R76). -/

namespace Sys2Proof.Laws

/-- The opcode byte of a well-formed instruction tells how long the instruction is. -/
def OpcodeGivesLength.Statement (i : Instr) : Prop :=
  i.wellFormed = true → (encode i).length = (decodeOpcode ((encode i).headD 0)).length

theorem OpcodeGivesLength.nop : OpcodeGivesLength.Statement .nop := fun _ => rfl
theorem OpcodeGivesLength.lxiB (d16 : Word) : OpcodeGivesLength.Statement (.lxiB d16) := fun _ => rfl
theorem OpcodeGivesLength.staxB : OpcodeGivesLength.Statement .staxB := fun _ => rfl
theorem OpcodeGivesLength.inxB : OpcodeGivesLength.Statement .inxB := fun _ => rfl
theorem OpcodeGivesLength.inrB : OpcodeGivesLength.Statement .inrB := fun _ => rfl
theorem OpcodeGivesLength.dcrB : OpcodeGivesLength.Statement .dcrB := fun _ => rfl
theorem OpcodeGivesLength.mviB (d8 : Byte) : OpcodeGivesLength.Statement (.mviB d8) := fun _ => rfl
theorem OpcodeGivesLength.rlc : OpcodeGivesLength.Statement .rlc := fun _ => rfl
theorem OpcodeGivesLength.dadB : OpcodeGivesLength.Statement .dadB := fun _ => rfl
theorem OpcodeGivesLength.ldaxB : OpcodeGivesLength.Statement .ldaxB := fun _ => rfl
theorem OpcodeGivesLength.dcxB : OpcodeGivesLength.Statement .dcxB := fun _ => rfl
theorem OpcodeGivesLength.inrC : OpcodeGivesLength.Statement .inrC := fun _ => rfl
theorem OpcodeGivesLength.dcrC : OpcodeGivesLength.Statement .dcrC := fun _ => rfl
theorem OpcodeGivesLength.mviC (d8 : Byte) : OpcodeGivesLength.Statement (.mviC d8) := fun _ => rfl
theorem OpcodeGivesLength.rrc : OpcodeGivesLength.Statement .rrc := fun _ => rfl
theorem OpcodeGivesLength.lxiD (d16 : Word) : OpcodeGivesLength.Statement (.lxiD d16) := fun _ => rfl
theorem OpcodeGivesLength.staxD : OpcodeGivesLength.Statement .staxD := fun _ => rfl
theorem OpcodeGivesLength.inxD : OpcodeGivesLength.Statement .inxD := fun _ => rfl
theorem OpcodeGivesLength.inrD : OpcodeGivesLength.Statement .inrD := fun _ => rfl
theorem OpcodeGivesLength.dcrD : OpcodeGivesLength.Statement .dcrD := fun _ => rfl
theorem OpcodeGivesLength.mviD (d8 : Byte) : OpcodeGivesLength.Statement (.mviD d8) := fun _ => rfl
theorem OpcodeGivesLength.ral : OpcodeGivesLength.Statement .ral := fun _ => rfl
theorem OpcodeGivesLength.dadD : OpcodeGivesLength.Statement .dadD := fun _ => rfl
theorem OpcodeGivesLength.ldaxD : OpcodeGivesLength.Statement .ldaxD := fun _ => rfl
theorem OpcodeGivesLength.dcxD : OpcodeGivesLength.Statement .dcxD := fun _ => rfl
theorem OpcodeGivesLength.inrE : OpcodeGivesLength.Statement .inrE := fun _ => rfl
theorem OpcodeGivesLength.dcrE : OpcodeGivesLength.Statement .dcrE := fun _ => rfl
theorem OpcodeGivesLength.mviE (d8 : Byte) : OpcodeGivesLength.Statement (.mviE d8) := fun _ => rfl
theorem OpcodeGivesLength.rar : OpcodeGivesLength.Statement .rar := fun _ => rfl
theorem OpcodeGivesLength.lxiH (d16 : Word) : OpcodeGivesLength.Statement (.lxiH d16) := fun _ => rfl
theorem OpcodeGivesLength.shld (addr : Word) : OpcodeGivesLength.Statement (.shld addr) := fun _ => rfl
theorem OpcodeGivesLength.inxH : OpcodeGivesLength.Statement .inxH := fun _ => rfl
theorem OpcodeGivesLength.inrH : OpcodeGivesLength.Statement .inrH := fun _ => rfl
theorem OpcodeGivesLength.dcrH : OpcodeGivesLength.Statement .dcrH := fun _ => rfl
theorem OpcodeGivesLength.mviH (d8 : Byte) : OpcodeGivesLength.Statement (.mviH d8) := fun _ => rfl
theorem OpcodeGivesLength.dadH : OpcodeGivesLength.Statement .dadH := fun _ => rfl
theorem OpcodeGivesLength.lhld (addr : Word) : OpcodeGivesLength.Statement (.lhld addr) := fun _ => rfl
theorem OpcodeGivesLength.dcxH : OpcodeGivesLength.Statement .dcxH := fun _ => rfl
theorem OpcodeGivesLength.inrL : OpcodeGivesLength.Statement .inrL := fun _ => rfl
theorem OpcodeGivesLength.dcrL : OpcodeGivesLength.Statement .dcrL := fun _ => rfl
theorem OpcodeGivesLength.mviL (d8 : Byte) : OpcodeGivesLength.Statement (.mviL d8) := fun _ => rfl
theorem OpcodeGivesLength.cma : OpcodeGivesLength.Statement .cma := fun _ => rfl
theorem OpcodeGivesLength.lxiSP (d16 : Word) : OpcodeGivesLength.Statement (.lxiSP d16) := fun _ => rfl
theorem OpcodeGivesLength.sta (addr : Word) : OpcodeGivesLength.Statement (.sta addr) := fun _ => rfl
theorem OpcodeGivesLength.inxSP : OpcodeGivesLength.Statement .inxSP := fun _ => rfl
theorem OpcodeGivesLength.inrM : OpcodeGivesLength.Statement .inrM := fun _ => rfl
theorem OpcodeGivesLength.dcrM : OpcodeGivesLength.Statement .dcrM := fun _ => rfl
theorem OpcodeGivesLength.mviM (d8 : Byte) : OpcodeGivesLength.Statement (.mviM d8) := fun _ => rfl
theorem OpcodeGivesLength.stc : OpcodeGivesLength.Statement .stc := fun _ => rfl
theorem OpcodeGivesLength.dadSP : OpcodeGivesLength.Statement .dadSP := fun _ => rfl
theorem OpcodeGivesLength.lda (addr : Word) : OpcodeGivesLength.Statement (.lda addr) := fun _ => rfl
theorem OpcodeGivesLength.dcxSP : OpcodeGivesLength.Statement .dcxSP := fun _ => rfl
theorem OpcodeGivesLength.inrA : OpcodeGivesLength.Statement .inrA := fun _ => rfl
theorem OpcodeGivesLength.dcrA : OpcodeGivesLength.Statement .dcrA := fun _ => rfl
theorem OpcodeGivesLength.mviA (d8 : Byte) : OpcodeGivesLength.Statement (.mviA d8) := fun _ => rfl
theorem OpcodeGivesLength.cmc : OpcodeGivesLength.Statement .cmc := fun _ => rfl
theorem OpcodeGivesLength.movBB : OpcodeGivesLength.Statement .movBB := fun _ => rfl
theorem OpcodeGivesLength.movBC : OpcodeGivesLength.Statement .movBC := fun _ => rfl
theorem OpcodeGivesLength.movBD : OpcodeGivesLength.Statement .movBD := fun _ => rfl
theorem OpcodeGivesLength.movBE : OpcodeGivesLength.Statement .movBE := fun _ => rfl
theorem OpcodeGivesLength.movBH : OpcodeGivesLength.Statement .movBH := fun _ => rfl
theorem OpcodeGivesLength.movBL : OpcodeGivesLength.Statement .movBL := fun _ => rfl
theorem OpcodeGivesLength.movBM : OpcodeGivesLength.Statement .movBM := fun _ => rfl
theorem OpcodeGivesLength.movBA : OpcodeGivesLength.Statement .movBA := fun _ => rfl
theorem OpcodeGivesLength.movCB : OpcodeGivesLength.Statement .movCB := fun _ => rfl
theorem OpcodeGivesLength.movCC : OpcodeGivesLength.Statement .movCC := fun _ => rfl
theorem OpcodeGivesLength.movCD : OpcodeGivesLength.Statement .movCD := fun _ => rfl
theorem OpcodeGivesLength.movCE : OpcodeGivesLength.Statement .movCE := fun _ => rfl
theorem OpcodeGivesLength.movCH : OpcodeGivesLength.Statement .movCH := fun _ => rfl
theorem OpcodeGivesLength.movCL : OpcodeGivesLength.Statement .movCL := fun _ => rfl
theorem OpcodeGivesLength.movCM : OpcodeGivesLength.Statement .movCM := fun _ => rfl
theorem OpcodeGivesLength.movCA : OpcodeGivesLength.Statement .movCA := fun _ => rfl
theorem OpcodeGivesLength.movDB : OpcodeGivesLength.Statement .movDB := fun _ => rfl
theorem OpcodeGivesLength.movDC : OpcodeGivesLength.Statement .movDC := fun _ => rfl
theorem OpcodeGivesLength.movDD : OpcodeGivesLength.Statement .movDD := fun _ => rfl
theorem OpcodeGivesLength.movDE : OpcodeGivesLength.Statement .movDE := fun _ => rfl
theorem OpcodeGivesLength.movDH : OpcodeGivesLength.Statement .movDH := fun _ => rfl
theorem OpcodeGivesLength.movDL : OpcodeGivesLength.Statement .movDL := fun _ => rfl
theorem OpcodeGivesLength.movDM : OpcodeGivesLength.Statement .movDM := fun _ => rfl
theorem OpcodeGivesLength.movDA : OpcodeGivesLength.Statement .movDA := fun _ => rfl
theorem OpcodeGivesLength.movEB : OpcodeGivesLength.Statement .movEB := fun _ => rfl
theorem OpcodeGivesLength.movEC : OpcodeGivesLength.Statement .movEC := fun _ => rfl
theorem OpcodeGivesLength.movED : OpcodeGivesLength.Statement .movED := fun _ => rfl
theorem OpcodeGivesLength.movEE : OpcodeGivesLength.Statement .movEE := fun _ => rfl
theorem OpcodeGivesLength.movEH : OpcodeGivesLength.Statement .movEH := fun _ => rfl
theorem OpcodeGivesLength.movEL : OpcodeGivesLength.Statement .movEL := fun _ => rfl
theorem OpcodeGivesLength.movEM : OpcodeGivesLength.Statement .movEM := fun _ => rfl
theorem OpcodeGivesLength.movEA : OpcodeGivesLength.Statement .movEA := fun _ => rfl
theorem OpcodeGivesLength.movHB : OpcodeGivesLength.Statement .movHB := fun _ => rfl
theorem OpcodeGivesLength.movHC : OpcodeGivesLength.Statement .movHC := fun _ => rfl
theorem OpcodeGivesLength.movHD : OpcodeGivesLength.Statement .movHD := fun _ => rfl
theorem OpcodeGivesLength.movHE : OpcodeGivesLength.Statement .movHE := fun _ => rfl
theorem OpcodeGivesLength.movHH : OpcodeGivesLength.Statement .movHH := fun _ => rfl
theorem OpcodeGivesLength.movHL : OpcodeGivesLength.Statement .movHL := fun _ => rfl
theorem OpcodeGivesLength.movHM : OpcodeGivesLength.Statement .movHM := fun _ => rfl
theorem OpcodeGivesLength.movHA : OpcodeGivesLength.Statement .movHA := fun _ => rfl
theorem OpcodeGivesLength.movLB : OpcodeGivesLength.Statement .movLB := fun _ => rfl
theorem OpcodeGivesLength.movLC : OpcodeGivesLength.Statement .movLC := fun _ => rfl
theorem OpcodeGivesLength.movLD : OpcodeGivesLength.Statement .movLD := fun _ => rfl
theorem OpcodeGivesLength.movLE : OpcodeGivesLength.Statement .movLE := fun _ => rfl
theorem OpcodeGivesLength.movLH : OpcodeGivesLength.Statement .movLH := fun _ => rfl
theorem OpcodeGivesLength.movLL : OpcodeGivesLength.Statement .movLL := fun _ => rfl
theorem OpcodeGivesLength.movLM : OpcodeGivesLength.Statement .movLM := fun _ => rfl
theorem OpcodeGivesLength.movLA : OpcodeGivesLength.Statement .movLA := fun _ => rfl
theorem OpcodeGivesLength.movMB : OpcodeGivesLength.Statement .movMB := fun _ => rfl
theorem OpcodeGivesLength.movMC : OpcodeGivesLength.Statement .movMC := fun _ => rfl
theorem OpcodeGivesLength.movMD : OpcodeGivesLength.Statement .movMD := fun _ => rfl
theorem OpcodeGivesLength.movME : OpcodeGivesLength.Statement .movME := fun _ => rfl
theorem OpcodeGivesLength.movMH : OpcodeGivesLength.Statement .movMH := fun _ => rfl
theorem OpcodeGivesLength.movML : OpcodeGivesLength.Statement .movML := fun _ => rfl
theorem OpcodeGivesLength.movMA : OpcodeGivesLength.Statement .movMA := fun _ => rfl
theorem OpcodeGivesLength.movAB : OpcodeGivesLength.Statement .movAB := fun _ => rfl
theorem OpcodeGivesLength.movAC : OpcodeGivesLength.Statement .movAC := fun _ => rfl
theorem OpcodeGivesLength.movAD : OpcodeGivesLength.Statement .movAD := fun _ => rfl
theorem OpcodeGivesLength.movAE : OpcodeGivesLength.Statement .movAE := fun _ => rfl
theorem OpcodeGivesLength.movAH : OpcodeGivesLength.Statement .movAH := fun _ => rfl
theorem OpcodeGivesLength.movAL : OpcodeGivesLength.Statement .movAL := fun _ => rfl
theorem OpcodeGivesLength.movAM : OpcodeGivesLength.Statement .movAM := fun _ => rfl
theorem OpcodeGivesLength.movAA : OpcodeGivesLength.Statement .movAA := fun _ => rfl
theorem OpcodeGivesLength.addB : OpcodeGivesLength.Statement .addB := fun _ => rfl
theorem OpcodeGivesLength.addC : OpcodeGivesLength.Statement .addC := fun _ => rfl
theorem OpcodeGivesLength.addD : OpcodeGivesLength.Statement .addD := fun _ => rfl
theorem OpcodeGivesLength.addE : OpcodeGivesLength.Statement .addE := fun _ => rfl
theorem OpcodeGivesLength.addH : OpcodeGivesLength.Statement .addH := fun _ => rfl
theorem OpcodeGivesLength.addL : OpcodeGivesLength.Statement .addL := fun _ => rfl
theorem OpcodeGivesLength.addM : OpcodeGivesLength.Statement .addM := fun _ => rfl
theorem OpcodeGivesLength.addA : OpcodeGivesLength.Statement .addA := fun _ => rfl
theorem OpcodeGivesLength.adcB : OpcodeGivesLength.Statement .adcB := fun _ => rfl
theorem OpcodeGivesLength.adcC : OpcodeGivesLength.Statement .adcC := fun _ => rfl
theorem OpcodeGivesLength.adcD : OpcodeGivesLength.Statement .adcD := fun _ => rfl
theorem OpcodeGivesLength.adcE : OpcodeGivesLength.Statement .adcE := fun _ => rfl
theorem OpcodeGivesLength.adcH : OpcodeGivesLength.Statement .adcH := fun _ => rfl
theorem OpcodeGivesLength.adcL : OpcodeGivesLength.Statement .adcL := fun _ => rfl
theorem OpcodeGivesLength.adcM : OpcodeGivesLength.Statement .adcM := fun _ => rfl
theorem OpcodeGivesLength.adcA : OpcodeGivesLength.Statement .adcA := fun _ => rfl
theorem OpcodeGivesLength.trap (op : Byte) : OpcodeGivesLength.Statement (.trap op) := fun h => (decodeOpcode_length_of_trap op h).symm

end Sys2Proof.Laws
end

