-- ==== Sys2Proof/Tests/Slice0.lean ====
section
/-! SUPPORT. Small tests: well-formedness refuses what it should, every opcode decodes as the formats of R71 write it, single
steps give what spec/95_test_vectors.md lists, and each statement with hypotheses has a state that meets them. -/

namespace Sys2Proof.Tests

open Sys2Proof.Machine Sys2Proof.Slice0

/-! ## Helpers -/

/-- The next state a step answers, if it answers one. -/
def nextOf (r : Result) : Option State :=
  match r with
  | .next t => some t
  | .fault _ => none
  | .refused _ => none

/-- One step from `s` with `bytes` at its program counter, and what is looked at afterwards. -/
def after {α : Type} (s : State) (bytes : List Byte) (look : State → α) : Option α :=
  (nextOf (step (s.loadBytes s.pc bytes))).map look

/-- Reset with some registers. -/
def withRegs (a b c d e h l : Byte) : State := { State.reset with regs := { a, b, c, d, e, h, l } }

/-- Z, S, P, CY, AC in the order of the test vectors. -/
def flagList (s : State) : List Bool := [s.flags.z, s.flags.s, s.flags.p, s.flags.cy, s.flags.ac]

/-- A state with CY as given. -/
def withCarry (s : State) (cy : Bool) : State := s.setCarry cy

/-! ## Well-formedness: the one check, with a term it refuses -/

theorem test_wellFormed_refuses_trap_of_nop : (Instr.trap 0x00).wellFormed = false := by decide

theorem test_wellFormed_refuses_trap_of_adcA : (Instr.trap 0x8F).wellFormed = false := by decide

theorem test_wellFormed_accepts_trap_of_hlt_and_subB :
    (Instr.trap 0x76).wellFormed = true ∧ (Instr.trap 0x90).wellFormed = true := by decide

/-! ## Decoding: every opcode, its bits written out by the formats of R71 and the codes of R74 and R75 -/

theorem test_decode_implied :
    [
      0b00000000, 0b00000111, 0b00001111, 0b00010111, 0b00011111, 0b00101111, 0b00110111, 0b00111111 ].map (decodeTableWord 8) = [
      Instr.nop, .rlc, .rrc, .ral, .rar, .cma, .stc, .cmc ].map some := by decide

theorem test_decode_lxi :
    decode [0b00000001, 0x34, 0x12] = .ok (.lxiB 0x1234, []) ∧
    decode [0b00010001, 0x34, 0x12] = .ok (.lxiD 0x1234, []) ∧
    decode [0b00100001, 0x34, 0x12] = .ok (.lxiH 0x1234, []) ∧
    decode [0b00110001, 0x34, 0x12] = .ok (.lxiSP 0x1234, []) := by
  exact ⟨rfl, rfl, rfl, rfl⟩

theorem test_decode_stax :
    [
      0b00000010, 0b00010010 ].map (decodeTableWord 8) = [
      Instr.staxB, .staxD ].map some := by decide

theorem test_decode_inx :
    [
      0b00000011, 0b00010011, 0b00100011, 0b00110011 ].map (decodeTableWord 8) = [
      Instr.inxB, .inxD, .inxH, .inxSP ].map some := by decide

theorem test_decode_inr :
    [
      0b00000100, 0b00001100, 0b00010100, 0b00011100, 0b00100100, 0b00101100, 0b00110100, 0b00111100 ].map (decodeTableWord 8) = [
      Instr.inrB, .inrC, .inrD, .inrE, .inrH, .inrL, .inrM, .inrA ].map some := by decide

theorem test_decode_dcr :
    [
      0b00000101, 0b00001101, 0b00010101, 0b00011101, 0b00100101, 0b00101101, 0b00110101, 0b00111101 ].map (decodeTableWord 8) = [
      Instr.dcrB, .dcrC, .dcrD, .dcrE, .dcrH, .dcrL, .dcrM, .dcrA ].map some := by decide

theorem test_decode_mvi :
    decode [0b00000110, 0x42] = .ok (.mviB 0x42, []) ∧
    decode [0b00001110, 0x42] = .ok (.mviC 0x42, []) ∧
    decode [0b00010110, 0x42] = .ok (.mviD 0x42, []) ∧
    decode [0b00011110, 0x42] = .ok (.mviE 0x42, []) ∧
    decode [0b00100110, 0x42] = .ok (.mviH 0x42, []) ∧
    decode [0b00101110, 0x42] = .ok (.mviL 0x42, []) ∧
    decode [0b00110110, 0x42] = .ok (.mviM 0x42, []) ∧
    decode [0b00111110, 0x42] = .ok (.mviA 0x42, []) := by
  exact ⟨rfl, rfl, rfl, rfl, rfl, rfl, rfl, rfl⟩

theorem test_decode_dad :
    [
      0b00001001, 0b00011001, 0b00101001, 0b00111001 ].map (decodeTableWord 8) = [
      Instr.dadB, .dadD, .dadH, .dadSP ].map some := by decide

theorem test_decode_ldax :
    [
      0b00001010, 0b00011010 ].map (decodeTableWord 8) = [
      Instr.ldaxB, .ldaxD ].map some := by decide

theorem test_decode_dcx :
    [
      0b00001011, 0b00011011, 0b00101011, 0b00111011 ].map (decodeTableWord 8) = [
      Instr.dcxB, .dcxD, .dcxH, .dcxSP ].map some := by decide

theorem test_decode_direct :
    decode [0b00100010, 0x34, 0x12] = .ok (.shld 0x1234, []) ∧
    decode [0b00101010, 0x34, 0x12] = .ok (.lhld 0x1234, []) ∧
    decode [0b00110010, 0x34, 0x12] = .ok (.sta 0x1234, []) ∧
    decode [0b00111010, 0x34, 0x12] = .ok (.lda 0x1234, []) := by
  exact ⟨rfl, rfl, rfl, rfl⟩

theorem test_decode_mov_to_b :
    [
      0b01000000, 0b01000001, 0b01000010, 0b01000011, 0b01000100, 0b01000101, 0b01000110, 0b01000111 ].map (decodeTableWord 8) = [
      Instr.movBB, .movBC, .movBD, .movBE, .movBH, .movBL, .movBM, .movBA ].map some := by decide

theorem test_decode_mov_to_c :
    [
      0b01001000, 0b01001001, 0b01001010, 0b01001011, 0b01001100, 0b01001101, 0b01001110, 0b01001111 ].map (decodeTableWord 8) = [
      Instr.movCB, .movCC, .movCD, .movCE, .movCH, .movCL, .movCM, .movCA ].map some := by decide

theorem test_decode_mov_to_d :
    [
      0b01010000, 0b01010001, 0b01010010, 0b01010011, 0b01010100, 0b01010101, 0b01010110, 0b01010111 ].map (decodeTableWord 8) = [
      Instr.movDB, .movDC, .movDD, .movDE, .movDH, .movDL, .movDM, .movDA ].map some := by decide

theorem test_decode_mov_to_e :
    [
      0b01011000, 0b01011001, 0b01011010, 0b01011011, 0b01011100, 0b01011101, 0b01011110, 0b01011111 ].map (decodeTableWord 8) = [
      Instr.movEB, .movEC, .movED, .movEE, .movEH, .movEL, .movEM, .movEA ].map some := by decide

theorem test_decode_mov_to_h :
    [
      0b01100000, 0b01100001, 0b01100010, 0b01100011, 0b01100100, 0b01100101, 0b01100110, 0b01100111 ].map (decodeTableWord 8) = [
      Instr.movHB, .movHC, .movHD, .movHE, .movHH, .movHL, .movHM, .movHA ].map some := by decide

theorem test_decode_mov_to_l :
    [
      0b01101000, 0b01101001, 0b01101010, 0b01101011, 0b01101100, 0b01101101, 0b01101110, 0b01101111 ].map (decodeTableWord 8) = [
      Instr.movLB, .movLC, .movLD, .movLE, .movLH, .movLL, .movLM, .movLA ].map some := by decide

theorem test_decode_mov_to_m :
    [
      0b01110000, 0b01110001, 0b01110010, 0b01110011, 0b01110100, 0b01110101, 0b01110111 ].map (decodeTableWord 8) = [
      Instr.movMB, .movMC, .movMD, .movME, .movMH, .movML, .movMA ].map some := by decide

theorem test_decode_mov_to_a :
    [
      0b01111000, 0b01111001, 0b01111010, 0b01111011, 0b01111100, 0b01111101, 0b01111110, 0b01111111 ].map (decodeTableWord 8) = [
      Instr.movAB, .movAC, .movAD, .movAE, .movAH, .movAL, .movAM, .movAA ].map some := by decide

theorem test_decode_add :
    [
      0b10000000, 0b10000001, 0b10000010, 0b10000011, 0b10000100, 0b10000101, 0b10000110, 0b10000111 ].map (decodeTableWord 8) = [
      Instr.addB, .addC, .addD, .addE, .addH, .addL, .addM, .addA ].map some := by decide

theorem test_decode_adc :
    [
      0b10001000, 0b10001001, 0b10001010, 0b10001011, 0b10001100, 0b10001101, 0b10001110, 0b10001111 ].map (decodeTableWord 8) = [
      Instr.adcB, .adcC, .adcD, .adcE, .adcH, .adcL, .adcM, .adcA ].map some := by decide

/-- The bytes from 0x90 on, as well as the nine below, decode to TRAP of themselves (R79). -/
theorem test_decode_trap :
    ([0x08, 0x10, 0x18, 0x20, 0x27, 0x28, 0x30, 0x38, 0x76] ++ List.range' 0x90 0x70).all
      (fun n => decodeTableWord 8 n == some (Instr.trap (BitVec.ofNat 8 n))) = true := by decide +kernel

theorem test_decode_ends_too_soon :
    decode [] = .error .noOpcode ∧ decode [0x3E] = .error (.missingByte2 0x3E) ∧ decode [0x01, 0x34] = .error (.missingByte3 0x01) := by
  exact ⟨rfl, rfl, rfl⟩

/-! ## Single steps (spec/95_test_vectors.md, sections 2.4 to 2.8) -/

theorem test_nop :
    after { State.reset with pc := 0xFFFF } [0x00] (fun t => (t.pc, t.regs, t.flags, t.sp)) =
      some (0x0000, State.reset.regs, State.reset.flags, 0x0000) := by decide

theorem test_mov_B_C :
    after (withRegs 0x00 0x11 0x22 0x00 0x00 0x00 0x00) [0x41] (fun t => (t.regs.b, t.regs.c, t.pc)) =
      some (0x22, 0x22, 1) := by decide

theorem test_mov_H_M :
    after (State.writeByte (withRegs 0x00 0x00 0x00 0x00 0x00 0x20 0x10) 0x2010 0x99) [0x66] (fun t => (t.regs.h, t.regs.l, t.pc)) =
      some (0x99, 0x10, 1) := by decide

theorem test_mov_L_M :
    after (State.writeByte (withRegs 0x00 0x00 0x00 0x00 0x00 0x20 0x10) 0x2010 0x99) [0x6E] (fun t => (t.regs.h, t.regs.l)) =
      some (0x20, 0x99) := by decide

theorem test_mov_M_H :
    after (withRegs 0x00 0x00 0x00 0x00 0x00 0x20 0x10) [0x74] (fun t => (t.readByte 0x2010, t.pc)) =
      some (0x20, 1) := by decide

theorem test_mov_M_A :
    after (withRegs 0x5A 0x00 0x00 0x00 0x00 0x20 0x10) [0x77] (fun t => (t.readByte 0x2010, t.readByte 0x2011)) =
      some (0x5A, 0x00) := by decide

theorem test_mvi_A :
    after State.reset [0x3E, 0x42] (fun t => (t.regs.a, t.pc)) =
      some (0x42, 2) := by decide

theorem test_mvi_L_straddles_the_top :
    after { State.reset with pc := 0xFFFF } [0x2E, 0x77] (fun t => (t.regs.l, t.pc)) =
      some (0x77, 0x0001) := by decide

theorem test_mvi_M :
    after (withRegs 0x00 0x00 0x00 0x00 0x00 0x30 0x00) [0x36, 0xAB] (fun t => (t.readByte 0x3000, t.pc)) =
      some (0xAB, 2) := by decide

theorem test_lxi_B :
    after State.reset [0x01, 0x34, 0x12] (fun t => (t.regs.b, t.regs.c, t.pc)) =
      some (0x12, 0x34, 3) := by decide

theorem test_lxi_H_straddles_the_top :
    after { State.reset with pc := 0xFFFE } [0x21, 0xCD, 0xAB] (fun t => (t.regs.l, t.regs.h, t.pc)) =
      some (0xCD, 0xAB, 0x0001) := by decide

theorem test_lxi_SP :
    after State.reset [0x31, 0xFE, 0xCA] (fun t => (t.sp, t.pc)) =
      some (0xCAFE, 3) := by decide

theorem test_stax_B :
    after (withRegs 0x56 0x12 0x34 0x00 0x00 0x00 0x00) [0x02] (fun t => (t.readByte 0x1234, t.pc)) =
      some (0x56, 1) := by decide

theorem test_stax_D :
    after (withRegs 0xA1 0x00 0x00 0xFF 0xFF 0x00 0x00) [0x12] (fun t => (t.readByte 0xFFFF, t.pc)) =
      some (0xA1, 1) := by decide

theorem test_ldax_B :
    after (State.writeByte (withRegs 0x00 0x40 0x02 0x00 0x00 0x00 0x00) 0x4002 0x7F) [0x0A] (fun t => (t.regs.a, t.pc)) =
      some (0x7F, 1) := by decide

theorem test_ldax_D :
    after (State.writeByte (withRegs 0x00 0x00 0x00 0x40 0x02 0x00 0x00) 0x4002 0x7F) [0x1A] (fun t => (t.regs.a, t.pc)) =
      some (0x7F, 1) := by decide

theorem test_sta :
    after (withRegs 0x9C 0x00 0x00 0x00 0x00 0x00 0x00) [0x32, 0x00, 0x30] (fun t => (t.readByte 0x3000, t.pc)) =
      some (0x9C, 3) := by decide

theorem test_sta_into_its_own_byte :
    after (withRegs 0x9C 0x00 0x00 0x00 0x00 0x00 0x00) [0x32, 0x01, 0x00] (fun t => (t.readByte 0x0001, t.pc)) =
      some (0x9C, 3) := by decide

theorem test_lda :
    after (State.writeByte (withRegs 0x00 0x00 0x00 0x00 0x00 0x00 0x00) 0x3000 0x9C) [0x3A, 0x00, 0x30] (fun t => (t.regs.a, t.pc)) =
      some (0x9C, 3) := by decide

theorem test_shld :
    after (withRegs 0x00 0x00 0x00 0x00 0x00 0xAB 0xCD) [0x22, 0x50, 0x40] (fun t => (t.readByte 0x4050, t.readByte 0x4051, t.pc)) =
      some (0xCD, 0xAB, 3) := by decide

theorem test_shld_at_the_top :
    after { (withRegs 0x00 0x00 0x00 0x00 0x00 0xAB 0xCD) with pc := 0x0100 } [0x22, 0xFF, 0xFF] (fun t => (t.readByte 0xFFFF, t.readByte 0x0000, t.pc)) =
      some (0xCD, 0xAB, 0x0103) := by decide

theorem test_lhld :
    after (State.writeByte (State.writeByte (withRegs 0x00 0x00 0x00 0x00 0x00 0x00 0x00) 0x4050 0xCD) 0x4051 0xAB) [0x2A, 0x50, 0x40] (fun t => (t.regs.l, t.regs.h, t.pc)) =
      some (0xCD, 0xAB, 3) := by decide

theorem test_lhld_at_the_top :
    after { (State.writeByte (State.writeByte (withRegs 0x00 0x00 0x00 0x00 0x00 0x00 0x00) 0xFFFF 0x11) 0x0000 0x22) with pc := 0x0100 } [0x2A, 0xFF, 0xFF] (fun t => (t.regs.l, t.regs.h, t.pc)) =
      some (0x11, 0x22, 0x0103) := by decide

theorem test_inr_B_wraps :
    after (withCarry (withRegs 0x00 0xFF 0x00 0x00 0x00 0x00 0x00) true) [0x04] (fun t => (t.regs.b, flagList t)) =
      some (0x00, [true, false, true, true, true]) := by decide

theorem test_inr_A_into_sign :
    after (withRegs 0x7F 0x00 0x00 0x00 0x00 0x00 0x00) [0x3C] (fun t => (t.regs.a, flagList t)) =
      some (0x80, [false, true, false, false, true]) := by decide

theorem test_inr_M :
    after (State.writeByte (withRegs 0x00 0x00 0x00 0x00 0x00 0x20 0x00) 0x2000 0x0F) [0x34] (fun t => (t.readByte 0x2000, flagList t)) =
      some (0x10, [false, false, false, false, true]) := by decide

theorem test_dcr_C_wraps :
    after (withCarry (withRegs 0x00 0x00 0x00 0x00 0x00 0x00 0x00) true) [0x0D] (fun t => (t.regs.c, flagList t)) =
      some (0xFF, [false, true, true, true, false]) := by decide

theorem test_dcr_A_nibble_borrow :
    after (withRegs 0x10 0x00 0x00 0x00 0x00 0x00 0x00) [0x3D] (fun t => (t.regs.a, flagList t)) =
      some (0x0F, [false, false, true, false, false]) := by decide

theorem test_dcr_M :
    after (State.writeByte (withRegs 0x00 0x00 0x00 0x00 0x00 0x20 0x00) 0x2000 0x01) [0x35] (fun t => (t.readByte 0x2000, flagList t)) =
      some (0x00, [true, false, true, false, true]) := by decide

theorem test_inx_B_ripples :
    after (withCarry (withRegs 0x00 0x12 0xFF 0x00 0x00 0x00 0x00) true) [0x03] (fun t => (t.regs.b, t.regs.c, flagList t)) =
      some (0x13, 0x00, [false, false, false, true, false]) := by decide

theorem test_inx_SP :
    after { State.reset with sp := 0x00FF } [0x33] (fun t => (t.sp, flagList t)) =
      some (0x0100, [false, false, false, false, false]) := by decide

theorem test_dcx_D_borrows :
    after (withRegs 0x00 0x00 0x00 0x13 0x00 0x00 0x00) [0x1B] (fun t => (t.regs.d, t.regs.e, flagList t)) =
      some (0x12, 0xFF, [false, false, false, false, false]) := by decide

theorem test_dcx_SP_wraps :
    after State.reset [0x3B] (fun t => (t.sp, flagList t)) =
      some (0xFFFF, [false, false, false, false, false]) := by decide

theorem test_dad_B_carries :
    after (withRegs 0x00 0x00 0x01 0x00 0x00 0xFF 0xFF) [0x09] (fun t => (t.regs.h, t.regs.l, flagList t)) =
      some (0x00, 0x00, [false, false, false, true, false]) := by decide

theorem test_dad_D_clears_carry :
    after (withCarry (withRegs 0x00 0x00 0x00 0x11 0x11 0x12 0x34) true) [0x19] (fun t => (t.regs.h, t.regs.l, flagList t)) =
      some (0x23, 0x45, [false, false, false, false, false]) := by decide

theorem test_dad_H_doubles :
    after (withRegs 0x00 0x00 0x00 0x00 0x00 0x80 0x01) [0x29] (fun t => (t.regs.h, t.regs.l, flagList t)) =
      some (0x00, 0x02, [false, false, false, true, false]) := by decide

theorem test_dad_SP :
    after { withRegs 0 0 0 0 0 0x00 0x10 with sp := 0xFFF0 } [0x39] (fun t => (t.regs.h, t.regs.l, t.sp, flagList t)) =
      some (0x00, 0x00, 0xFFF0, [false, false, false, true, false]) := by decide

theorem test_add_B :
    after (withRegs 0x3A 0xC6 0x00 0x00 0x00 0x00 0x00) [0x80] (fun t => (t.regs.a, flagList t)) =
      some (0x00, [true, false, true, true, true]) := by decide

theorem test_add_A_doubles :
    after (withRegs 0x80 0x00 0x00 0x00 0x00 0x00 0x00) [0x87] (fun t => (t.regs.a, flagList t)) =
      some (0x00, [true, false, true, true, false]) := by decide

theorem test_add_E_ignores_carry :
    after (withCarry (withRegs 0x2E 0x00 0x00 0x00 0x74 0x00 0x00) true) [0x83] (fun t => (t.regs.a, flagList t)) =
      some (0xA2, [false, true, false, false, true]) := by decide

theorem test_add_M :
    after (State.writeByte (withRegs 0x10 0x00 0x00 0x00 0x00 0x20 0x00) 0x2000 0x22) [0x86] (fun t => (t.regs.a, flagList t)) =
      some (0x32, [false, false, false, false, false]) := by decide

theorem test_adc_C_with_carry :
    after (withCarry (withRegs 0x42 0x00 0x3D 0x00 0x00 0x00 0x00) true) [0x89] (fun t => (t.regs.a, flagList t)) =
      some (0x80, [false, true, false, false, true]) := by decide

theorem test_adc_C_without_carry :
    after (withRegs 0x42 0x00 0x3D 0x00 0x00 0x00 0x00) [0x89] (fun t => (t.regs.a, flagList t)) =
      some (0x7F, [false, false, false, false, false]) := by decide

theorem test_adc_A_all_ones :
    after (withCarry (withRegs 0xFF 0x00 0x00 0x00 0x00 0x00 0x00) true) [0x8F] (fun t => (t.regs.a, flagList t)) =
      some (0xFF, [false, true, true, true, true]) := by decide

theorem test_adc_M :
    after (withCarry (withRegs 0x0F 0x00 0x00 0x00 0x00 0x20 0x00) true) [0x8E] (fun t => (t.regs.a, flagList t)) =
      some (0x10, [false, false, false, false, true]) := by decide

theorem test_rlc :
    after (withRegs 0x80 0x00 0x00 0x00 0x00 0x00 0x00) [0x07] (fun t => (t.regs.a, flagList t)) =
      some (0x01, [false, false, false, true, false]) := by decide

theorem test_rlc_no_carry :
    after (withCarry (withRegs 0x4D 0x00 0x00 0x00 0x00 0x00 0x00) true) [0x07] (fun t => (t.regs.a, flagList t)) =
      some (0x9A, [false, false, false, false, false]) := by decide

theorem test_rrc :
    after (withRegs 0x01 0x00 0x00 0x00 0x00 0x00 0x00) [0x0F] (fun t => (t.regs.a, flagList t)) =
      some (0x80, [false, false, false, true, false]) := by decide

theorem test_rrc_no_carry :
    after (withCarry (withRegs 0xF2 0x00 0x00 0x00 0x00 0x00 0x00) true) [0x0F] (fun t => (t.regs.a, flagList t)) =
      some (0x79, [false, false, false, false, false]) := by decide

theorem test_ral :
    after (withRegs 0xB5 0x00 0x00 0x00 0x00 0x00 0x00) [0x17] (fun t => (t.regs.a, flagList t)) =
      some (0x6A, [false, false, false, true, false]) := by decide

theorem test_ral_carry_in :
    after (withCarry (withRegs 0x00 0x00 0x00 0x00 0x00 0x00 0x00) true) [0x17] (fun t => (t.regs.a, flagList t)) =
      some (0x01, [false, false, false, false, false]) := by decide

theorem test_rar :
    after (withCarry (withRegs 0x6A 0x00 0x00 0x00 0x00 0x00 0x00) true) [0x1F] (fun t => (t.regs.a, flagList t)) =
      some (0xB5, [false, false, false, false, false]) := by decide

theorem test_rar_carry_out :
    after (withRegs 0x01 0x00 0x00 0x00 0x00 0x00 0x00) [0x1F] (fun t => (t.regs.a, flagList t)) =
      some (0x00, [false, false, false, true, false]) := by decide

theorem test_cma :
    after (withCarry (withRegs 0x51 0x00 0x00 0x00 0x00 0x00 0x00) true) [0x2F] (fun t => (t.regs.a, flagList t)) =
      some (0xAE, [false, false, false, true, false]) := by decide

theorem test_cmc_clears :
    after (withCarry (withRegs 0x00 0x00 0x00 0x00 0x00 0x00 0x00) true) [0x3F] (fun t => (t.regs.a, flagList t)) =
      some (0x00, [false, false, false, false, false]) := by decide

theorem test_cmc_sets :
    after (withRegs 0x00 0x00 0x00 0x00 0x00 0x00 0x00) [0x3F] (fun t => (t.regs.a, flagList t)) =
      some (0x00, [false, false, false, true, false]) := by decide

theorem test_stc :
    after (withRegs 0x00 0x00 0x00 0x00 0x00 0x00 0x00) [0x37] (fun t => (t.regs.a, flagList t)) =
      some (0x00, [false, false, false, true, false]) := by decide

theorem test_trap_hlt :
    after { State.reset with pc := 0x0200 } [0x76] (fun t => (t.trapped, t.trapOpcode, t.trapPc, t.pc, t.trapReport)) =
      some (true, 0x76, 0x0200, 0x0200, some { kind := .unimplementedOpcode, opcode := 0x76, pc := 0x0200 }) := by decide

theorem test_trap_jmp_reads_no_operand :
    after { State.reset with pc := 0x0010 } [0xC3, 0x00, 0x10] (fun t => (t.trapped, t.trapOpcode, t.trapPc, t.pc)) =
      some (true, 0xC3, 0x0010, 0x0010) := by decide

theorem test_step_refused_while_trapped : nextOf (step { State.reset with trapped := true }) = none := by decide

theorem test_flagsByte_of_P1_and_P5 :
    ({ z := false, s := false, p := false, cy := true, ac := false } : Flags).toByte = 0x08 ∧
      ({ z := true, s := false, p := true, cy := false, ac := true } : Flags).toByte = 0x15 := by decide

/-! ## The units (spec/95_test_vectors.md, sections 2.1 to 2.3) -/

theorem test_adder_halfcarry_from_carry_in :
    addWithCarry (0xF0 : Byte) 0x0F true = { result := 0x00, carryOut := true, auxCarryOut := true } := by decide

theorem test_adder_word_aux_is_bit_three :
    addWithCarry (0x0100 : Word) 0xFFFF false = { result := 0x00FF, carryOut := true, auxCarryOut := false } := by decide

theorem test_parity : [0x0000, 0x0001, 0x0003, 0x0007, 0x007F, 0x0080, 0x00FE, 0x00FF, 0x0100, 0x0101, 0xFFFF].map parityEven =
    [true, false, true, false, false, false, false, true, false, true, true] := by decide

/-! ## The interface to the host -/

theorem test_withFetchWord_runs_the_word :
    (nextOf (step (State.reset.withFetchWord 24 0x123401))).map (fun t => (t.regs.b, t.regs.c, t.pc)) = some (0x12, 0x34, 3) := by
  decide

theorem test_withFetchWord_cuts_at_nbits :
    (nextOf (step (State.reset.withFetchWord 8 0xFF01))).map (fun t => (t.regs.b, t.regs.c, t.pc)) = some (0x00, 0x00, 3) := by
  decide

/-! ## Each statement with hypotheses: a state and operands that meet them -/

theorem witness_TwoPassSumEqualsCarryInSum :
    (8 : Nat) = 8 ∨ (8 : Nat) = 16 := .inl rfl

theorem witness_CanonicalMemoriesThatReadAlikeAreEqual :
    Memory.wf [(1, 0x02), (65535, 0x03)] ∧ ∀ a : Word, Memory.lookup [(1, 0x02), (65535, 0x03)] a.toNat = Memory.lookup [(1, 0x02), (65535, 0x03)] a.toNat := ⟨by decide, fun _ => rfl⟩

theorem witness_PairCodeSelectsHighAndLowByte :
    Instr.staxB.form = .stax .bc ∧ Instr.staxD.form = .stax .de ∧ Instr.ldaxB.form = .ldax .bc ∧ Instr.ldaxD.form = .ldax .de := by decide

theorem witness_MovCopiesRegisterToRegister :
    Instr.movBC.form = .mov (.reg .b) (.reg .c) ∧ Instr.movAA.form = .mov (.reg .a) (.reg .a) := by decide

theorem witness_MovLoadsRegisterFromMemory :
    Instr.movHM.form = .mov (.reg .h) .m := by decide

theorem witness_MovStoresRegisterToMemory :
    Instr.movML.form = .mov .m (.reg .l) := by decide

theorem witness_MviLoadsRegister :
    (Instr.mviA 0x42).form = .mvi (.reg .a) 0x42 := by decide

theorem witness_LxiLoadsLowAndHighByte :
    (Instr.lxiB 0x1234).form = .lxi .bc (pack 0x12 0x34) ∧ (Instr.lxiD 0x1234).form = .lxi .de (pack 0x12 0x34) ∧
      (Instr.lxiH 0x1234).form = .lxi .hl (pack 0x12 0x34) ∧ (Instr.lxiSP 0x1234).form = .lxi .sp (pack 0x12 0x34) := by decide

theorem witness_InrIncrementsRegister :
    Instr.inrB.form = .inr (.reg .b) := by decide

theorem witness_DcrDecrementsRegister :
    Instr.dcrC.form = .dcr (.reg .c) := by decide

theorem witness_InxIncrementsPair :
    Instr.inxB.form = .inx .bc ∧ Instr.inxSP.form = .inx .sp := by decide

theorem witness_DcxDecrementsPair :
    Instr.dcxD.form = .dcx .de ∧ Instr.dcxSP.form = .dcx .sp := by decide

theorem witness_DadAddsPairToHL :
    Instr.dadH.form = .dad .hl ∧ Instr.dadSP.form = .dad .sp := by decide

theorem witness_AddAddsOperandToAccumulator :
    Instr.addA.form = .add (.reg .a) ∧ Instr.addM.form = .add .m := by decide

theorem witness_AdcAddsOperandAndCarryToAccumulator :
    Instr.adcC.form = .adc (.reg .c) ∧ Instr.adcM.form = .adc .m := by decide

theorem witness_TrapRecordsOpcodeAndPc :
    [0x08, 0x76, 0x90, 0xFF].map isTrapOpcode = [true, true, true, true] := by decide

/-- Reset with `bytes` at address 0. -/
def program (bytes : List Byte) : State := State.reset.loadBytes 0 bytes

theorem witness_FetchingTrapOpcodeTakesTrap :
    (program [0x76]).trapped = false ∧ isTrapOpcode ((program [0x76]).readByte (program [0x76]).pc) = true := by decide

theorem witness_NoStepWhileTrapped :
    ((program [0x76]).takeTrap 0x76).trapped = true := by decide

theorem witness_OnlyTrapOpcodesTrap :
    (nextOf (step (program [0x76]))).isSome = true ∧ (nextOf (step (program [0x77]))).isSome = true := by decide

theorem witness_DecodeInvertsEncode :
    Instr.movBC.wellFormed = true ∧ (Instr.lxiSP 0xCAFE).wellFormed = true ∧ (Instr.trap 0x90).wellFormed = true := by decide

theorem witness_EncodeInvertsDecode :
    decode [0x36, 0xAB, 0x76] = .ok (.mviM 0xAB, [0x76]) := rfl

theorem witness_StepRunsTheDecodedInstruction :
    (program [0x01, 0x34, 0x12]).trapped = false ∧ (Instr.lxiB 0x1234).wellFormed = true ∧
      decode ((program [0x01, 0x34, 0x12]).bytesFrom (program [0x01, 0x34, 0x12]).pc 3) = .ok (.lxiB 0x1234, []) := ⟨by decide, by decide, rfl⟩

theorem witness_UntrappedMachineAlwaysSteps :
    State.reset.trapped = false := by decide

/-- One opcode of each length, and a trapping one. -/
theorem witness_StepAdvancesPcByLength :
    ([[0x00], [0x3E, 0x01], [0x32, 0x00, 0x30], [0x76]].map fun p => (nextOf (step (program p))).map State.pc) =
      [some 1, some 2, some 3, some 0] := by decide

theorem witness_NoStepChangesInte :
    (nextOf (step { State.reset with inte := true })).map State.inte = some true := by decide

theorem witness_OnlySpFormsChangeSp :
    ([[0x31, 0x01, 0x00], [0x33], [0x3B]].map fun p => (nextOf (step (program p))).map State.sp) =
      [some 0x0001, some 0x0001, some 0xFFFF] := by decide

/-- A flag of each clause changes: Z under INR, under DCR and under ADD, CY under STC, DAD and RLC. -/
theorem witness_FlagsChangeOnlyAsTabled :
    ([(0xFF, 0x3C), (0x01, 0x3D), (0x00, 0x87)].map fun p =>
        after (withRegs p.1 0 0 0 0 0 0) [p.2] fun t => t.flags.z) = [some true, some true, some true] ∧
      (([0x37, 0x29, 0x07] : List Byte).map fun op => after (withRegs 0x80 0 0 0 0 0x80 0) [op] fun t => t.flags.cy) =
        [some true, some true, some true] := by decide

/-- A byte of each clause changes: the storing forms at HL, STAX B, STAX D, STA, and both bytes of SHLD, the second wrapping. -/
theorem witness_MemoryChangesOnlyAtStoreAddresses :
    ([[0x70], [0x77], [0x36, 0xAB], [0x34], [0x35]].map fun p =>
        after (withRegs 0x5A 0x12 0x34 0x23 0x45 0x34 0x56) p fun t => t.readByte 0x3456) =
        [some 0x12, some 0x5A, some 0xAB, some 0x01, some 0xFF] ∧
      (after (withRegs 0x5A 0x12 0x34 0x23 0x45 0x34 0x56) [0x02] fun t => t.readByte 0x1234) = some 0x5A ∧
      (after (withRegs 0x5A 0x12 0x34 0x23 0x45 0x34 0x56) [0x12] fun t => t.readByte 0x2345) = some 0x5A ∧
      (after (withRegs 0x5A 0x12 0x34 0x23 0x45 0x34 0x56) [0x32, 0xFF, 0xFF] fun t => t.readByte 0xFFFF) = some 0x5A ∧
      (after (withRegs 0x5A 0x12 0x34 0x23 0x45 0x34 0x56) [0x22, 0xFF, 0xFF] fun t => (t.readByte 0xFFFF, t.readByte 0x0000)) =
        some (0x56, 0x34) := by decide

theorem witness_ShldUsesTheAddressFetchedBeforeItsWrites :
    (program [0x22, 0x01, 0x00]).trapped = false ∧ (program [0x22, 0x01, 0x00]).readByte (program [0x22, 0x01, 0x00]).pc = 0x22 := by decide

/-- STA 0x0003 at address 0, with the byte of HLT in A. -/
def patching : State := (withRegs 0x76 0 0 0 0 0 0).loadBytes 0 [0x32, 0x03, 0x00]

theorem witness_StoredOpcodeIsFetchedByTheNextStep :
    patching.trapped = false ∧ patching.readByte patching.pc = 0x32 ∧ addressOperand patching = patching.pc + 3 ∧
      isTrapOpcode patching.regs.a = true := by decide

/-- LXI H,0xABCD at 0xFFFE, its last byte at address 0. -/
def straddling : State := ({ State.reset with pc := 0xFFFE } : State).loadBytes 0xFFFE [0x21, 0xCD, 0xAB]

theorem witness_FetchWrapsAtTheTopOfMemory :
    straddling.trapped = false ∧ straddling.pc = 0xFFFE ∧ straddling.readByte 0xFFFE = 0x21 := by decide

theorem witness_EveryStepKeepsInvariant :
    (program [0x76]).Inv ∧ (nextOf (step (program [0x76]))).isSome = true := ⟨⟨by decide, fun h => nomatch h⟩, by decide⟩

end Sys2Proof.Tests
end

section
/-! Family `10_state.md`: the state after an instruction, said once for every form; from it what a step can do to INTE, SP and
the flags, and which opcode bytes those forms have. Then the flags byte and the reset values. -/

namespace Sys2Proof

/-! ## The opcode byte of a decoded instruction -/

/-- A byte is its row of the opcode map followed by its column (R77). -/
theorem byte_eq_row_append_column (op : Byte) : op = op.extractLsb' 4 4 ++ op.extractLsb' 0 4 := by
  rw [BitVec.extractLsb'_append_extractLsb'_eq_extractLsb' (by rfl)]
  simp

/-- `encode_headD_opcodeTable` by row and column of the map. The immediates stay variables: no entry of the table looks at
them to choose its opcode byte, so each of the 256 cases computes. -/
theorem encode_headD_row_column (byte2 byte3 : Byte) : ∀ row column : BitVec 4,
    (encode ((decodeOpcode (row ++ column)).instr (row ++ column) byte2 byte3)).headD 0 = row ++ column :=
  of_decide_eq_true (Eq.refl true)

/-- The instruction that the table gives for an opcode byte is encoded with that opcode byte first (R71, R77). -/
theorem encode_headD_opcodeTable (op byte2 byte3 : Byte) :
    (encode ((decodeOpcode op).instr op byte2 byte3)).headD 0 = op := by
  rw [byte_eq_row_append_column op]
  exact encode_headD_row_column byte2 byte3 _ _

/-! ## The opcode formats under the masks of the opcode map (R71) -/

theorem formatDDD_and_mask (dst : Operand) (fn : BitVec 3) : formatDDD dst fn &&& 0xC7 = 0b00000#5 ++ fn := by
  have mask : ∀ ddd fn : BitVec 3, (0b00#2 ++ ddd ++ fn : Byte) &&& 0xC7 = 0b00000#5 ++ fn := by decide
  exact mask dst.code fn

theorem formatRP_and_mask (rp : Pair) (fn : BitVec 4) : formatRP rp fn &&& 0xCF = 0b0000#4 ++ fn := by
  have mask : ∀ (pp : BitVec 2) (fn : BitVec 4), (0b00#2 ++ pp ++ fn : Byte) &&& 0xCF = 0b0000#4 ++ fn := by decide
  exact mask rp.code fn

/-- ADD (`fn` 000) and ADC (`fn` 001) fill the row 0x8 of the map (R77). -/
theorem formatALU_and_mask (op : BitVec 1) (src : Operand) : formatALU (0b00#2 ++ op) src &&& 0xF0 = 0x80 := by
  have mask : ∀ (op : BitVec 1) (sss : BitVec 3), (0b10#2 ++ (0b00#2 ++ op) ++ sss : Byte) &&& 0xF0 = 0x80 := by decide
  exact mask op src.code

/-! ## The opcode bytes of the forms that write SP and the flags -/

/-- The opcode bytes of the forms that write SP (R24). -/
theorem opcode_of_sp_form {f : Form} (h : (∃ d16, f = .lxi .sp d16) ∨ f = .inx .sp ∨ f = .dcx .sp) :
    f.bytes.headD 0 ∈ ([0x31, 0x33, 0x3B] : List Byte) := by
  obtain ⟨d16, rfl⟩ | rfl | rfl := h
  · have lxiSP : formatRP .sp 0b0001 ∈ ([0x31, 0x33, 0x3B] : List Byte) := by decide
    exact lxiSP
  · decide
  · decide

/-- The opcode bytes of the forms that write Z, S, P and AC (R27). -/
theorem opcode_of_zspac_form {f : Form} (h : ∃ o, f = .inr o ∨ f = .dcr o ∨ f = .add o ∨ f = .adc o) :
    f.bytes.headD 0 &&& 0xC7 = 0x04 ∨ f.bytes.headD 0 &&& 0xC7 = 0x05 ∨ f.bytes.headD 0 &&& 0xF0 = 0x80 := by
  obtain ⟨o, rfl | rfl | rfl | rfl⟩ := h
  · exact .inl (formatDDD_and_mask o 0b100)
  · exact .inr (.inl (formatDDD_and_mask o 0b101))
  · exact .inr (.inr (formatALU_and_mask 0 o))
  · exact .inr (.inr (formatALU_and_mask 1 o))

/-- The opcode bytes of the forms that write CY (R27). -/
theorem opcode_of_carry_form {f : Form}
    (h : (∃ rp, f = .dad rp) ∨ (∃ o, f = .add o ∨ f = .adc o) ∨ f ∈ [Form.rlc, .rrc, .ral, .rar, .stc, .cmc]) :
    f.bytes.headD 0 &&& 0xCF = 0x09 ∨ f.bytes.headD 0 &&& 0xF0 = 0x80 ∨
      f.bytes.headD 0 ∈ ([0x07, 0x0F, 0x17, 0x1F, 0x37, 0x3F] : List Byte) := by
  obtain ⟨rp, rfl⟩ | ⟨o, rfl | rfl⟩ | hf := h
  · exact .inl (formatRP_and_mask rp 0b1001)
  · exact .inr (.inl (formatALU_and_mask 0 o))
  · exact .inr (.inl (formatALU_and_mask 1 o))
  · have fixed : ∀ f ∈ [Form.rlc, .rrc, .ral, .rar, .stc, .cmc],
        f.bytes.headD 0 ∈ ([0x07, 0x0F, 0x17, 0x1F, 0x37, 0x3F] : List Byte) := by decide
    exact .inr (.inr (fixed f hf))

namespace Machine

/-- The opcode byte of the fetched instruction's form is the byte at the program counter (R56, R112). -/
theorem State.fetch_form_opcode (s : State) : s.fetch.form.bytes.headD 0 = s.readByte s.pc :=
  encode_headD_opcodeTable _ _ _

/-! ## The state after an instruction -/

/-- The state after INR (`delta` 1) or DCR (`delta` 0xFF): `bump_eq` says so. -/
def State.bumped (delta : Byte) (o : Operand) (s : State) : State :=
  ((s.writeOperand o (addWithCarry (s.readOperand o) delta false).result).applyFlags
    (FlagMask.zspac (addWithCarry (s.readOperand o) delta false).auxCarryOut)
    ((addWithCarry (s.readOperand o) delta false).result.setWidth 16)).advance 1

@[simp] theorem State.bumped_sp (delta : Byte) (o : Operand) (s : State) : (s.bumped delta o).sp = s.sp := by
  simp [State.bumped]

@[simp] theorem State.bumped_inte (delta : Byte) (o : Operand) (s : State) : (s.bumped delta o).inte = s.inte := by
  simp [State.bumped]

/-- INR and DCR do not request CY (R103). -/
@[simp] theorem State.bumped_carry (delta : Byte) (o : Operand) (s : State) : (s.bumped delta o).flags.cy = s.flags.cy := by
  simp [State.bumped, Flags.apply, FlagMask.zspac]

/-- The state after ADD or ADC: `addToA_eq` says so. -/
def State.addedToA (o : Operand) (cin : Bool) (s : State) : State :=
  ((s.writeReg .a (addWithCarry s.regs.a (s.readOperand o) cin).result).applyFlags
    (FlagMask.all (addWithCarry s.regs.a (s.readOperand o) cin).carryOut
      (addWithCarry s.regs.a (s.readOperand o) cin).auxCarryOut)
    ((addWithCarry s.regs.a (s.readOperand o) cin).result.setWidth 16)).advance 1

@[simp] theorem State.addedToA_sp (o : Operand) (cin : Bool) (s : State) : (s.addedToA o cin).sp = s.sp := rfl

@[simp] theorem State.addedToA_inte (o : Operand) (cin : Bool) (s : State) : (s.addedToA o cin).inte = s.inte := rfl

/-- The state after an instruction of each form; for a trapping opcode the trap entry (R203). `formMeaning_eq_formNextState` ties
it to the model. -/
def formNextState (f : Form) (s : State) : State :=
  match f with
  | .nop => s.advance 1
  | .mov dst src => (s.writeOperand dst (s.readOperand src)).advance 1
  | .mvi dst d8 => (s.writeOperand dst d8).advance 2
  | .lxi rp d16 => (s.writePair rp d16).advance 3
  | .stax rp => (s.writeByte (s.readPair rp) s.regs.a).advance 1
  | .ldax rp => (s.writeReg .a (s.readByte (s.readPair rp))).advance 1
  | .sta addr => (s.writeByte addr s.regs.a).advance 3
  | .lda addr => (s.writeReg .a (s.readByte addr)).advance 3
  | .shld addr => (s.writeWord addr (s.readPair .hl)).advance 3
  | .lhld addr => (s.writePair .hl (s.readWord addr)).advance 3
  | .inr dst => s.bumped 0x01 dst
  | .dcr dst => s.bumped 0xFF dst
  | .inx rp => (s.writePair rp (s.readPair rp + 0x0001)).advance 1
  | .dcx rp => (s.writePair rp (s.readPair rp + 0xFFFF)).advance 1
  | .dad rp => ((s.writePair .hl (s.readPair .hl + s.readPair rp)).setCarry
      (addWithCarry (s.readPair .hl) (s.readPair rp) false).carryOut).advance 1
  | .add src => s.addedToA src false
  | .adc src => s.addedToA src s.flags.cy
  | .rlc => ((s.writeReg .a (s.regs.a.extractLsb' 0 7 ++ s.regs.a.extractLsb' 7 1)).setCarry (s.regs.a.getLsbD 7)).advance 1
  | .rrc => ((s.writeReg .a (s.regs.a.extractLsb' 0 1 ++ s.regs.a.extractLsb' 1 7)).setCarry (s.regs.a.getLsbD 0)).advance 1
  | .ral => ((s.writeReg .a (s.regs.a.extractLsb' 0 7 ++ BitVec.ofBool s.flags.cy)).setCarry (s.regs.a.getLsbD 7)).advance 1
  | .rar => ((s.writeReg .a (BitVec.ofBool s.flags.cy ++ s.regs.a.extractLsb' 1 7)).setCarry (s.regs.a.getLsbD 0)).advance 1
  | .cma => (s.writeReg .a (~~~s.regs.a)).advance 1
  | .stc => (s.setCarry true).advance 1
  | .cmc => (s.setCarry (!s.flags.cy)).advance 1
  | .trap op => s.takeTrap op

/-- Every form answers a next state, from every state (R113). -/
theorem formMeaning_eq_formNextState (f : Form) (s : State) : formMeaning f s = .next (formNextState f s) := by
  cases f with
  | inx rp => exact bumpPair_eq 0x0001 rp s
  | dcx rp => exact bumpPair_eq 0xFFFF rp s
  | dad rp => exact doubleAdd_eq rp s
  | _ => rfl

/-- The inversion lemma of `step`: a next state is the one that the fetched instruction's form gives. -/
theorem eq_formNextState_of_step {s t : State} (h : step s = .next t) : t = formNextState s.fetch.form s := by
  obtain ⟨-, hform⟩ := step_next h
  rw [formMeaning_eq_formNextState] at hform
  cases hform
  rfl

/-! ## What a form writes of INTE, SP and the flags -/

theorem formNextState_inte (f : Form) (s : State) : (formNextState f s).inte = s.inte := by
  cases f <;> simp [formNextState]

/-- SP is written as the pair `sp` and in no other way (R24). -/
theorem form_of_formNextState_sp_ne (f : Form) (s : State) (h : (formNextState f s).sp ≠ s.sp) :
    (∃ d16, f = .lxi .sp d16) ∨ f = .inx .sp ∨ f = .dcx .sp := by
  cases f with
  | lxi rp | inx rp | dcx rp =>
    have hrp : rp = .sp := by
      by_contra hne
      simp [formNextState, State.writePair_sp, hne] at h
    simp [hrp]
  | _ => simp [formNextState, State.writePair_sp] at h

/-- Only INR, DCR, ADD and ADC request Z, S, P and AC (R103); the rotates, STC and CMC write CY directly (R167). -/
theorem form_of_formNextState_zspac_ne (f : Form) (s : State)
    (h : (formNextState f s).flags.z ≠ s.flags.z ∨ (formNextState f s).flags.s ≠ s.flags.s ∨
      (formNextState f s).flags.p ≠ s.flags.p ∨ (formNextState f s).flags.ac ≠ s.flags.ac) :
    ∃ o, f = .inr o ∨ f = .dcr o ∨ f = .add o ∨ f = .adc o := by
  cases f with
  | inr o | dcr o | add o | adc o => exact ⟨o, by simp⟩
  | _ => simp [formNextState] at h

theorem form_of_formNextState_carry_ne (f : Form) (s : State) (h : (formNextState f s).flags.cy ≠ s.flags.cy) :
    (∃ rp, f = .dad rp) ∨ (∃ o, f = .add o ∨ f = .adc o) ∨ f ∈ [Form.rlc, .rrc, .ral, .rar, .stc, .cmc] := by
  cases f with
  | dad rp => exact .inl ⟨rp, rfl⟩
  | add o | adc o => exact .inr (.inl ⟨o, by simp⟩)
  | rlc | rrc | ral | rar | stc | cmc => simp
  | _ => simp [formNextState] at h

end Machine

/-! ## The statements of the family -/

namespace Slice0

open Machine

/-- Settles O49: every form leaves INTE as it was. -/
theorem noStepChangesInte : Obligations.NoStepChangesInte := by
  intro s t h
  rw [eq_formNextState_of_step h]
  exact formNextState_inte _ s

/-- Settles O50: the three forms that write the pair `sp`, and the opcode byte of each. -/
theorem onlySpFormsChangeSp : Obligations.OnlySpFormsChangeSp := by
  intro s t h hsp
  rw [eq_formNextState_of_step h] at hsp
  rw [← s.fetch_form_opcode]
  exact opcode_of_sp_form (form_of_formNextState_sp_ne _ s hsp)

/-- Settles O51: the forms that write the flags of each clause, and their opcode bytes. -/
theorem flagsChangeOnlyAsTabled : Obligations.FlagsChangeOnlyAsTabled := by
  intro s t h
  rw [eq_formNextState_of_step h, ← s.fetch_form_opcode]
  exact ⟨fun hne => opcode_of_zspac_form (form_of_formNextState_zspac_ne _ s hne),
    fun hne => opcode_of_carry_form (form_of_formNextState_carry_ne _ s hne)⟩

/-- Settles O6: a bit of a concatenation is a bit of the part it falls in. -/
theorem flagsByteHasTheStatedLayout : Obligations.FlagsByteHasTheStatedLayout := by
  intro s
  simp only [State.flagsByte, Flags.toByte, BitVec.getLsbD_append]
  simp

/-- The reset state is zeroed whatever memory the host puts in it (R40, R222). -/
theorem cpuZeroed_reset_with_mem (m : Memory) : cpuZeroed { State.reset with mem := m } :=
  ⟨rfl, rfl, rfl, rfl, (by decide : State.reset.flagsByte = 0x00), rfl, rfl⟩

/-- Settles O56: a launch puts the host's memory, and the loaded state if there is one, into the reset state. -/
theorem resetZeroesTheCpuState : Obligations.ResetZeroesTheCpuState := by
  refine ⟨cpuZeroed_reset_with_mem [], fun m o => ⟨rfl, cpuZeroed_reset_with_mem m, ?_⟩⟩
  simp [State.launch]

end Slice0

end Sys2Proof
end

section
/-! Family `20_memory.md`: byte and word accesses as reads and writes, where each form changes memory, and what the fetch takes from
memory. From these: which step can change which byte, and what a step does to bytes that it or the next step fetches. -/

namespace Sys2Proof

/-! ## The codec and the address arithmetic -/

/-- The number that an address operand or HL spells (R23, R73) is the packed pair. -/
theorem pack_eq_ofNat (high low : Byte) : pack high low = BitVec.ofNat 16 (high.toNat * 256 + low.toNat) := by
  rw [← pack_toNat, BitVec.ofNat_toNat, BitVec.setWidth_eq]

theorem unpack_high_eq_ofNat (v : Word) : (unpack v).1 = BitVec.ofNat 8 (v.toNat / 256) := by
  rw [← unpack_high_toNat, BitVec.ofNat_toNat, BitVec.setWidth_eq]

theorem unpack_low_eq_ofNat (v : Word) : (unpack v).2 = BitVec.ofNat 8 v.toNat := by
  apply BitVec.eq_of_toNat_eq
  rw [unpack_low_toNat, BitVec.toNat_ofNat]

theorem pack_unpack (v : Word) : pack (unpack v).1 (unpack v).2 = v := by
  apply BitVec.eq_of_toNat_eq
  rw [pack_toNat, unpack_high_toNat, unpack_low_toNat]
  omega

theorem unpack_pack (high low : Byte) : unpack (pack high low) = (high, low) := by
  have hlt := low.isLt
  have hhigh : (unpack (pack high low)).1 = high := by
    apply BitVec.eq_of_toNat_eq
    rw [unpack_high_toNat, pack_toNat]
    omega
  have hlow : (unpack (pack high low)).2 = low := by
    apply BitVec.eq_of_toNat_eq
    rw [unpack_low_toNat, pack_toNat]
    omega
  exact Prod.ext hhigh hlow

/-- The two bytes of a 16-bit access stand at different addresses, also where the second wraps (R54, R55). -/
theorem word_ne_add_one (a : Word) : a ≠ a + 1 := by bv_omega

/-! ## The opcode byte of MOV M,r, and the entries of the trapping opcodes -/

theorem formatMOV_m_reg (r : Reg) :
    formatMOV .m (.reg r) &&& 0xF8 = 0x70 ∧ formatMOV .m (.reg r) ≠ 0x76 := by
  cases r <;> decide

/-- The table's entry for each of the listed trapping opcodes is TRAP (R79, R112). -/
theorem decodeOpcode_eq_trap_of_isTrapOpcode {op : Byte} (h : isTrapOpcode op = true) : decodeOpcode op = .trap := by
  have table : ∀ op : Byte, isTrapOpcode op = true → (decodeOpcode op matches .trap) = true :=
    forall_byte (by decide +kernel)
  have hop := table op h
  cases hentry : decodeOpcode op with
  | trap => rfl
  | plain _ | imm8 _ | imm16 _ => simp [hentry] at hop

namespace Machine

open Slice0 (addressHL addressOperand)

/-! ## Reading a byte of a changed state -/

/-- Nothing but memory decides what a byte reads as (R52). -/
theorem State.readByte_congr {s t : State} (h : t.mem = s.mem) (x : Word) : t.readByte x = s.readByte x := by
  simp only [State.readByte, h]

@[simp] theorem State.readByte_advance (s : State) (n x : Word) : (s.advance n).readByte x = s.readByte x := rfl

theorem State.readByte_bumped (delta : Byte) (o : Operand) (s : State) (x : Word) :
    (s.bumped delta o).readByte x =
      if o = .m ∧ x = s.readPair .hl then (addWithCarry (s.readOperand o) delta false).result else s.readByte x :=
  s.readByte_writeOperand o x _

theorem State.readByte_writeWord_low (s : State) (a v : Word) : (s.writeWord a v).readByte a = (unpack v).2 := by
  rw [State.readByte_writeWord, if_neg (word_ne_add_one a), if_pos rfl]

theorem State.readByte_writeWord_high (s : State) (a v : Word) : (s.writeWord a v).readByte (a + 1) = (unpack v).1 := by
  rw [State.readByte_writeWord, if_pos rfl]

theorem State.readWord_writeWord (s : State) (a v : Word) : (s.writeWord a v).readWord a = v := by
  rw [State.readWord, State.readByte_writeWord_low, State.readByte_writeWord_high, pack_unpack]

theorem State.readPair_hl (s : State) : s.readPair .hl = addressHL s := pack_eq_ofNat _ _

/-! ## Where a form changes memory -/

/-- The inversion lemma of a memory change: the storing forms, each with the addresses it stores to (R59). -/
theorem form_of_formNextState_readByte_ne (f : Form) (s : State) (x : Word)
    (h : (formNextState f s).readByte x ≠ s.readByte x) :
    (((∃ src, f = .mov .m src) ∨ (∃ d8, f = .mvi .m d8) ∨ f = .inr .m ∨ f = .dcr .m) ∧ x = s.readPair .hl) ∨
      (∃ rp, f = .stax rp ∧ x = s.readPair rp) ∨ f = .sta x ∨ (∃ addr, f = .shld addr ∧ (x = addr ∨ x = addr + 1)) := by
  cases f with
  | mov dst _ | mvi dst _ =>
    simp only [formNextState, State.readByte_advance, State.readByte_writeOperand] at h
    obtain ⟨rfl, hx⟩ := (ite_ne_right_iff.mp h).1
    exact .inl ⟨by simp, hx⟩
  | inr dst | dcr dst =>
    simp only [formNextState, State.readByte_bumped] at h
    obtain ⟨rfl, hx⟩ := (ite_ne_right_iff.mp h).1
    exact .inl ⟨by simp, hx⟩
  | stax rp =>
    simp only [formNextState, State.readByte_advance, State.readByte_writeByte] at h
    exact .inr (.inl ⟨rp, rfl, (ite_ne_right_iff.mp h).1⟩)
  | sta addr =>
    simp only [formNextState, State.readByte_advance, State.readByte_writeByte] at h
    exact .inr (.inr (.inl (by rw [(ite_ne_right_iff.mp h).1])))
  | shld addr =>
    simp only [formNextState, State.readByte_advance, State.readByte_writeWord] at h
    refine .inr (.inr (.inr ⟨addr, rfl, ?_⟩))
    by_cases hhigh : x = addr + 1
    · exact .inr hhigh
    · rw [if_neg hhigh] at h
      exact .inl (ite_ne_right_iff.mp h).1
  | _ => exact absurd (State.readByte_congr (by simp [formNextState, State.addedToA]) x) h

/-! ## What the fetch answers for an opcode byte -/

/-- An entry with a 16-bit immediate takes the address operand, low byte first (R56, R73). -/
theorem State.fetch_of_imm16 {s : State} {op : Byte} {f : Word → Instr} (hop : s.readByte s.pc = op)
    (hentry : decodeOpcode op = .imm16 f) : s.fetch = f (addressOperand s) := by
  rw [State.fetch, hop, hentry, addressOperand, ← pack_eq_ofNat]
  rfl

/-- A trapping opcode byte is fetched as itself (R112, R170). -/
theorem State.fetch_of_isTrapOpcode {s : State} {op : Byte} (hop : s.readByte s.pc = op) (h : isTrapOpcode op = true) :
    s.fetch = .trap op := by
  rw [State.fetch, hop, decodeOpcode_eq_trap_of_isTrapOpcode h]
  rfl

/-- An untrapped machine steps to the state that the fetched instruction's form gives (R110, R113). -/
theorem step_eq_formNextState {s : State} (h : s.trapped = false) : step s = .next (formNextState s.fetch.form s) := by
  rw [step_of_untrapped h, exec_eq_formMeaning, formMeaning_eq_formNextState]

/-! ## The opcode bytes of the storing forms -/

theorem State.opcode_of_fetch_form {s : State} {f : Form} (hf : s.fetch.form = f) : s.readByte s.pc = f.bytes.headD 0 :=
  hf ▸ s.fetch_form_opcode.symm

/-- MOV M,r fills the left half of row 0x7 of the map but for column 6, where MOV M,M would stand: that byte traps (R77, R79). -/
theorem State.opcode_of_fetch_form_mov_m {s : State} {src : Operand} (hf : s.fetch.form = .mov .m src) :
    s.readByte s.pc &&& 0xF8 = 0x70 ∧ s.readByte s.pc ≠ 0x76 := by
  have hop : s.readByte s.pc = formatMOV .m src := State.opcode_of_fetch_form hf
  cases src with
  | reg r => exact hop ▸ formatMOV_m_reg r
  | m =>
    rw [State.fetch_of_isTrapOpcode hop (by decide)] at hf
    cases hf

/-- STAX is fetched for BC and DE only: where its format would name HL or SP stand SHLD and STA (R77). -/
theorem State.pair_of_fetch_form_stax {s : State} {rp : Pair} (hf : s.fetch.form = .stax rp) : rp = .bc ∨ rp = .de := by
  have hop : s.readByte s.pc = formatRP rp 0b0010 := State.opcode_of_fetch_form hf
  cases rp with
  | bc => exact .inl rfl
  | de => exact .inr rfl
  | hl =>
    rw [State.fetch_of_imm16 (f := .shld) hop rfl] at hf
    cases hf
  | sp =>
    rw [State.fetch_of_imm16 (f := .sta) hop rfl] at hf
    cases hf

/-- The opcode bytes of the forms that store to M (R59). -/
theorem State.opcode_of_fetch_form_m {s : State}
    (h : (∃ src, s.fetch.form = .mov .m src) ∨ (∃ d8, s.fetch.form = .mvi .m d8) ∨ s.fetch.form = .inr .m ∨
      s.fetch.form = .dcr .m) :
    (s.readByte s.pc &&& 0xF8 = 0x70 ∧ s.readByte s.pc ≠ 0x76) ∨ s.readByte s.pc ∈ ([0x34, 0x35, 0x36] : List Byte) := by
  obtain ⟨src, hf⟩ | ⟨d8, hf⟩ | hf | hf := h
  · exact .inl (State.opcode_of_fetch_form_mov_m hf)
  · have hop : s.readByte s.pc = 0x36 := State.opcode_of_fetch_form hf
    simp [hop]
  · have hop : s.readByte s.pc = 0x34 := State.opcode_of_fetch_form hf
    simp [hop]
  · have hop : s.readByte s.pc = 0x35 := State.opcode_of_fetch_form hf
    simp [hop]

end Machine

/-! ## The statements of the family -/

namespace Slice0

open Machine

/-- Settles O7: the law of memory for the state's byte access. -/
theorem byteWriteChangesOneByte : Obligations.ByteWriteChangesOneByte :=
  fun s a x v => ⟨s.readByte_writeByte a x v, rfl⟩

/-- Settles O8: the two addresses differ, so the order in which their writes are looked at does not matter. -/
theorem wordAccessIsTwoByteAccesses : Obligations.WordAccessIsTwoByteAccesses := by
  intro s a v x
  refine ⟨pack_toNat _ _, ?_, rfl, s.readWord_writeWord a v⟩
  rw [← unpack_high_eq_ofNat, ← unpack_low_eq_ofNat]
  by_cases hlow : x = a
  · rw [if_pos hlow, hlow, State.readByte_writeWord_low]
  · rw [State.readByte_writeWord, if_neg hlow, if_neg hlow]

/-- Settles O52: the forms that store, each with its addresses; the opcode byte of the fetched form is the one at the program
counter, and a direct address is the operand fetched with it. -/
theorem memoryChangesOnlyAtStoreAddresses : Obligations.MemoryChangesOnlyAtStoreAddresses := by
  intro s t x hstep hne
  rw [eq_formNextState_of_step hstep] at hne
  obtain ⟨hf, hx⟩ | ⟨rp, hf, hx⟩ | hf | ⟨addr, hf, hx⟩ := form_of_formNextState_readByte_ne _ s x hne
  · exact .inl ⟨State.opcode_of_fetch_form_m hf, hx.trans s.readPair_hl⟩
  · obtain rfl | rfl := State.pair_of_fetch_form_stax hf
    · exact .inr (.inl ⟨State.opcode_of_fetch_form hf, hx ▸ pack_toNat _ _⟩)
    · exact .inr (.inr (.inl ⟨State.opcode_of_fetch_form hf, hx ▸ pack_toNat _ _⟩))
  · have hop : s.readByte s.pc = 0x32 := State.opcode_of_fetch_form hf
    rw [State.fetch_of_imm16 (f := .sta) hop rfl] at hf
    cases hf
    exact .inr (.inr (.inr (.inl ⟨hop, rfl⟩)))
  · have hop : s.readByte s.pc = 0x22 := State.opcode_of_fetch_form hf
    rw [State.fetch_of_imm16 (f := .shld) hop rfl] at hf
    cases hf
    exact .inr (.inr (.inr (.inr ⟨hop, hx⟩)))

/-- Settles O53: the address is in the fetched instruction before anything is written. -/
theorem shldUsesTheAddressFetchedBeforeItsWrites : Obligations.ShldUsesTheAddressFetchedBeforeItsWrites := by
  intro s hs hop
  have hfetch : s.fetch = .shld (addressOperand s) := State.fetch_of_imm16 hop rfl
  have hhl : unpack (s.readPair .hl) = (s.regs.h, s.regs.l) := unpack_pack _ _
  refine ⟨_, step_eq_formNextState hs, ?_⟩
  rw [hfetch]
  refine ⟨rfl, ?_, ?_⟩
  · exact (s.readByte_writeWord_low _ _).trans (by rw [hhl])
  · exact (s.readByte_writeWord_high _ _).trans (by rw [hhl])

/-- Settles O54: STA leaves the trapping byte where the program counter comes to stand, so the second step fetches it. -/
theorem storedOpcodeIsFetchedByTheNextStep : Obligations.StoredOpcodeIsFetchedByTheNextStep := by
  intro s hs hop haddr htrap
  have hfetch : s.fetch = .sta (s.pc + 3) := haddr ▸ State.fetch_of_imm16 hop rfl
  have hfirst : step s = .next ((s.writeByte (s.pc + 3) s.regs.a).advance 3) := by
    rw [step_eq_formNextState hs, hfetch]
    rfl
  generalize ht : (s.writeByte (s.pc + 3) s.regs.a).advance 3 = t at hfirst
  have hpc : t.pc = s.pc + 3 := by simp [← ht]
  have hstored : t.readByte t.pc = s.regs.a := by simp [← ht, State.readByte_writeByte]
  have hsecond : step t = .next (t.takeTrap s.regs.a) := by
    rw [step_eq_formNextState (by simp [← ht, hs]), State.fetch_of_isTrapOpcode hstored htrap]
    rfl
  exact ⟨t, _, hfirst, hsecond, by rw [State.takeTrap, hpc]⟩

/-- Settles O55: the address operand wraps after 0xFFFF, and LXI H unpacks it into L and H. -/
theorem fetchWrapsAtTheTopOfMemory : Obligations.FetchWrapsAtTheTopOfMemory := by
  intro s hs hpc hop
  have hfetch : s.fetch = .lxiH (addressOperand s) := State.fetch_of_imm16 (hpc ▸ hop) rfl
  have hoperand : unpack (addressOperand s) = (s.readByte 0x0000, s.readByte 0xFFFF) := by
    rw [addressOperand, hpc, ← pack_eq_ofNat, unpack_pack]
    rfl
  rw [step_eq_formNextState hs, hfetch]
  simp [Instr.form, formNextState, State.writePair, State.advance, hoperand, hpc]

end Slice0

end Sys2Proof
end

section
/-! Family `30_encoding.md`: what the decoder accepts, and the table read as the encoder's inverse; from these the round trip in both
directions and the opcodes on which the table traps. Then what the operand and pair codes select. -/

namespace Sys2Proof

/-! ## What the decoder accepts -/

/-- The inversion lemma of `decode`: the bytes taken are as many as the entry of the first one says, and the instruction is the one
that the entry gives (R70, R112). The bytes that the entry does not take are left open. -/
theorem decode_eq_ok_iff {bytes rest : List Byte} {i : Instr} :
    decode bytes = .ok (i, rest) ↔
      ∃ op byte2 byte3 : Byte, i = (decodeOpcode op).instr op byte2 byte3 ∧
        bytes = [op, byte2, byte3].take (decodeOpcode op).length ++ rest := by
  constructor
  · intro h
    unfold decode at h
    split at h
    case h_1 => cases h
    case h_2 op tail =>
      split at h <;> cases h
      case h_1 hentry => exact ⟨op, 0, 0, by simp [hentry, Entry.instr, Entry.length]⟩
      case h_2 hentry => exact ⟨op, 0, 0, by simp [hentry, Entry.instr, Entry.length]⟩
      case h_3 _ byte2 hentry => exact ⟨op, byte2, 0, by simp [hentry, Entry.instr, Entry.length]⟩
      case h_4 _ byte2 byte3 hentry => exact ⟨op, byte2, byte3, by simp [hentry, Entry.instr, Entry.length]⟩
  · rintro ⟨op, byte2, byte3, rfl, rfl⟩
    cases hentry : decodeOpcode op <;> simp [decode, hentry, Entry.instr, Entry.length]

/-! ## The encoding of what the table gives for an opcode byte -/

/-- A fact about every opcode byte is a fact about every row and column of the map (R77). -/
theorem forall_byte_of_row_column {P : Byte → Prop} (h : ∀ row column : BitVec 4, P (row ++ column)) (op : Byte) : P op :=
  byte_eq_row_append_column op ▸ h _ _

/-- Whatever the table gives is an instruction of the machine: its TRAP entries are those of trapping opcodes (R79). -/
theorem wellFormed_opcodeTable (byte2 byte3 : Byte) : ∀ op : Byte,
    ((decodeOpcode op).instr op byte2 byte3).wellFormed = true :=
  forall_byte_of_row_column (by exact of_decide_eq_true (Eq.refl true))

/-- The formats of R71 give an instruction of the table as many bytes as its entry takes (R70), whatever the immediates are. -/
theorem encode_length_opcodeTable (byte2 byte3 : Byte) : ∀ op : Byte,
    (encode ((decodeOpcode op).instr op byte2 byte3)).length = (decodeOpcode op).length :=
  forall_byte_of_row_column (by exact of_decide_eq_true (Eq.refl true))

/-- The opcodes by length (R70): MVI takes two bytes, LXI and direct addressing three, every other opcode one. -/
theorem decodeOpcode_length_cases : ∀ op : Byte,
    (decodeOpcode op).length = 1 ∨
      op ∈ ([0x06, 0x0E, 0x16, 0x1E, 0x26, 0x2E, 0x36, 0x3E] : List Byte) ∨
      op ∈ ([0x01, 0x11, 0x21, 0x31, 0x22, 0x2A, 0x32, 0x3A] : List Byte) :=
  forall_byte_of_row_column (by decide)

/-- A 16-bit immediate stands in the instruction as the two bytes it was packed from (R73). -/
theorem imm16Bytes_pack (high low : Byte) : imm16Bytes (pack high low) = [low, high] := by
  rw [imm16Bytes, unpack_pack]

/-- The table and the formats agree: the instruction of an opcode byte is encoded as the bytes that its entry takes (R71, R77). -/
theorem encode_opcodeTable (op byte2 byte3 : Byte) :
    encode ((decodeOpcode op).instr op byte2 byte3) = [op, byte2, byte3].take (decodeOpcode op).length := by
  obtain hone | htwo | hthree := decodeOpcode_length_cases op
  · have hlength := encode_length_opcodeTable byte2 byte3 op
    have hhead := encode_headD_opcodeTable op byte2 byte3
    rw [hone, List.length_eq_one_iff] at hlength
    obtain ⟨first, hfirst⟩ := hlength
    rw [hfirst] at hhead ⊢
    simpa [hone] using hhead
  · simp only [List.mem_cons, List.not_mem_nil, or_false] at htwo
    obtain rfl | rfl | rfl | rfl | rfl | rfl | rfl | rfl := htwo <;> rfl
  · simp only [List.mem_cons, List.not_mem_nil, or_false] at hthree
    obtain rfl | rfl | rfl | rfl | rfl | rfl | rfl | rfl := hthree <;>
      exact congrArg (_ :: ·) (imm16Bytes_pack byte3 byte2)

/-! ## Every well-formed instruction stands in the table -/

/-- Its entry is at its own opcode byte; a 16-bit immediate is packed from its halves. -/
theorem exists_opcodeTable_eq {i : Instr} (h : i.wellFormed = true) :
    ∃ op byte2 byte3 : Byte, (decodeOpcode op).instr op byte2 byte3 = i := by
  refine ⟨(encode i).headD 0, (encode i).getD 1 0, (encode i).getD 2 0, ?_⟩
  cases i with
  | lxiB d16 | lxiD d16 | lxiH d16 | lxiSP d16 | shld d16 | lhld d16 | sta d16 | lda d16 => exact congrArg _ (pack_unpack d16)
  | trap op =>
    change (decodeOpcode op).instr op _ _ = _
    rw [decodeOpcode_eq_trap_of_isTrapOpcode h]
    rfl
  | _ => rfl

/-! ## The trapping opcodes -/

/-- The test for trapping opcodes is the list of R79. -/
theorem isTrapOpcode_iff (op : Byte) :
    isTrapOpcode op = true ↔
      op ∈ ([0x08, 0x10, 0x18, 0x20, 0x27, 0x28, 0x30, 0x38, 0x76] : List Byte) ∨ 0x90 ≤ op.toNat := by
  simp [isTrapOpcode, BitVec.le_def, or_assoc]

/-- The table's instruction is TRAP exactly for a trapping opcode: only there is TRAP well-formed (R79). -/
theorem opcodeTable_eq_trap_iff (op byte2 byte3 : Byte) :
    (decodeOpcode op).instr op byte2 byte3 = .trap op ↔ isTrapOpcode op = true := by
  constructor
  · intro h
    have hwf := wellFormed_opcodeTable byte2 byte3 op
    rwa [h] at hwf
  · intro h
    rw [decodeOpcode_eq_trap_of_isTrapOpcode h]
    rfl

/-! ## The pairs of STAX and LDAX -/

theorem pair_of_form_stax {i : Instr} {p : Pair} (h : i.form = .stax p) : p = .bc ∨ p = .de := by
  cases i with
  | staxB | staxD => cases h; simp
  | _ => cases h

theorem pair_of_form_ldax {i : Instr} {p : Pair} (h : i.form = .ldax p) : p = .bc ∨ p = .de := by
  cases i with
  | ldaxB | ldaxD => cases h; simp
  | _ => cases h

/-! ## The statements of the family -/

namespace Slice0

open Machine

/-- Settles O41: the instruction stands in the table, and its encoding is the bytes that its entry takes. -/
theorem decodeInvertsEncode : Obligations.DecodeInvertsEncode := by
  intro i rest h
  obtain ⟨op, byte2, byte3, rfl⟩ := exists_opcodeTable_eq h
  exact decode_eq_ok_iff.mpr ⟨op, byte2, byte3, rfl, by rw [encode_opcodeTable]⟩

/-- Settles O42: the decoder answers the table's instruction for the bytes that it took. -/
theorem encodeInvertsDecode : Obligations.EncodeInvertsDecode := by
  intro bytes rest i h
  obtain ⟨op, byte2, byte3, rfl, rfl⟩ := decode_eq_ok_iff.mp h
  exact ⟨wellFormed_opcodeTable byte2 byte3 op, by rw [encode_opcodeTable]⟩

/-- Settles O10: register codes read and write the registers, code 110 the byte at HL. -/
theorem operandCodeSelectsRegisterOrMemory : Obligations.OperandCodeSelectsRegisterOrMemory := by
  refine ⟨by decide, fun s v r r' x => ⟨rfl, rfl, ?_, Regs.read_write s.regs r r' v, rfl, ?_, rfl⟩⟩
  · exact congrArg s.readByte s.readPair_hl
  · rw [← State.readPair_hl]
    exact s.readByte_writeByte _ x v

/-- Settles O11: a pair is packed from its registers and unpacked into them; two constructors each have the forms STAX and LDAX. -/
theorem pairCodeSelectsHighAndLowByte : Obligations.PairCodeSelectsHighAndLowByte := by
  refine ⟨by decide, fun i p h => h.elim pair_of_form_stax pair_of_form_ldax, fun s v => ?_⟩
  rw [← unpack_high_eq_ofNat, ← unpack_low_eq_ofNat]
  exact ⟨pack_toNat _ _, pack_toNat _ _, pack_toNat _ _, rfl, rfl, rfl, rfl, rfl⟩

/-- Settles O43: each word is the encoding of its instruction, with nothing after it. -/
theorem sampleWordsDecode : Obligations.SampleWordsDecode :=
  ⟨decodeInvertsEncode .nop [] rfl, decodeInvertsEncode (.lxiB 0x1234) [] rfl, decodeInvertsEncode (.mviA 0x42) [] rfl,
    decodeInvertsEncode .movBC [] rfl, decodeInvertsEncode .movMA [] rfl, decodeInvertsEncode .adcM [] rfl,
    decodeInvertsEncode .dcrM [] rfl, decodeInvertsEncode .dadH [] rfl, decodeInvertsEncode .ral [] rfl,
    decodeInvertsEncode (.trap 0x76) [] rfl⟩

/-- Settles O44: the table traps on the trapping opcodes, which are the listed ones. -/
theorem tableTrapsOnTheListedOpcodes : Obligations.TableTrapsOnTheListedOpcodes :=
  ⟨fun op byte2 byte3 => (opcodeTable_eq_trap_iff op byte2 byte3).trans (isTrapOpcode_iff op), by rfl⟩

end Slice0

end Sys2Proof
end

section
/-! Family `40_functional_units.md`: the ripple form of the adder as the number its bits spell, two chained passes as one carry, and
the two ways to say parity. -/

namespace Sys2Proof

namespace Machine

/-- Two answers of an adder are the same if their three outputs are (R90). -/
theorem AdderOut.eq_of_outputs {w : Nat} {x y : AdderOut w} (result : x.result = y.result)
    (carryOut : x.carryOut = y.carryOut) (auxCarryOut : x.auxCarryOut = y.auxCarryOut) : x = y := by
  cases x
  cases y
  rw [AdderOut.mk.injEq]
  exact ⟨result, carryOut, auxCarryOut⟩

/-! ## The ripple form (R94) -/

/-- The carry of a full adder: two of its three inputs are 1. -/
theorem fullAdder_carry : ∀ x y c : Bool, ((x && y) || (c && (x ^^ y))) = Bool.atLeastTwo x y c := by decide

/-- The two outputs of a full adder spell the sum of its three inputs. -/
theorem fullAdder_sum : ∀ x y c : Bool,
    (x ^^ y ^^ c).toNat + 2 * ((x && y) || (c && (x ^^ y))).toNat = x.toNat + y.toNat + c.toNat := by decide

/-- The carry of the ripple form into bit `i` is the carry of the sum of the low `i` bits: `BitVec.carry` is defined by it. -/
theorem rippleCarry_eq_carry {w : Nat} (a b : BitVec w) (cin : Bool) (i : Nat) :
    rippleCarry a b cin i = BitVec.carry i a b cin := by
  induction i with
  | zero => exact BitVec.carry_zero.symm
  | succ i ih => rw [rippleCarry, ih, fullAdder_carry, BitVec.carry_succ]

/-- Bit `i` is what the low `i + 1` bits spell beyond the low `i`. -/
theorem toNat_mod_two_pow_succ {w : Nat} (a : BitVec w) (i : Nat) :
    a.toNat % 2 ^ (i + 1) = a.toNat % 2 ^ i + 2 ^ i * (a.getLsbD i).toNat := by
  rw [Nat.mod_pow_succ, BitVec.getLsbD, Nat.toNat_testBit]

/-- The low `n` result bits, with the carry into bit `n` above them, spell the sum of the low `n` bits of the operands. -/
theorem rippleSum_add_carry {w : Nat} (a b : BitVec w) (cin : Bool) (n : Nat) :
    rippleSum a b cin n + (rippleCarry a b cin n).toNat * 2 ^ n = a.toNat % 2 ^ n + b.toNat % 2 ^ n + cin.toNat := by
  induction n with
  | zero => simp [rippleSum, rippleCarry, Nat.mod_one]
  | succ i ih =>
    have hbit := fullAdder_sum (a.getLsbD i) (b.getLsbD i) (rippleCarry a b cin i)
    rw [rippleSum, rippleCarry, rippleBit, toNat_mod_two_pow_succ, toNat_mod_two_pow_succ]
    linear_combination ih + 2 ^ i * hbit

/-- At every width the ripple form computes R91 to R93. -/
theorem rippleAdd_eq_addWithCarry {w : Nat} (a b : BitVec w) (cin : Bool) : rippleAdd a b cin = addWithCarry a b cin := by
  have hsum := rippleSum_add_carry a b cin w
  rw [Nat.mod_eq_of_lt a.isLt, Nat.mod_eq_of_lt b.isLt] at hsum
  apply AdderOut.eq_of_outputs
  case result =>
    apply BitVec.eq_of_toNat_eq
    rw [addWithCarry_result, rippleAdd, ← hsum, BitVec.toNat_ofNat, BitVec.toNat_ofNat, Nat.add_mul_mod_self_right]
  case carryOut => exact (rippleCarry_eq_carry a b cin w).trans BitVec.carry_width
  case auxCarryOut => exact rippleCarry_eq_carry a b cin 4

/-! ## Two passes without carry-in (R108) -/

/-- Two digits and a carry below the base `m`, added in two passes: the first pass leaves a remainder of at most `m - 2` when it
carries, so the second does not carry too, and one of the two carries exactly when the whole sum does. -/
theorem carry_of_two_passes {m x y c : Nat} (hx : x < m) (hy : y < m) (hc : c ≤ 1) :
    (m ≤ x + y ∨ m ≤ (x + y) % m + c ↔ m ≤ x + y + c) ∧ ¬(m ≤ x + y ∧ m ≤ (x + y) % m + c) := by
  obtain hlt | hge := Nat.lt_or_ge (x + y) m
  · rw [Nat.mod_eq_of_lt hlt]
    omega
  · have hmod : (x + y) % m = x + y - m := by
      rw [Nat.mod_eq_sub_mod hge, Nat.mod_eq_of_lt (by omega)]
    omega

/-- A carry is a number of any width but 0. -/
theorem toNat_ofNat_carry {w : Nat} (hw : 0 < w) (cin : Bool) : (BitVec.ofNat w cin.toNat).toNat = cin.toNat := by
  rw [BitVec.toNat_ofNat]
  exact Nat.mod_eq_of_lt (cin.toNat_lt.trans_le (Nat.le_self_pow hw.ne' 2))

theorem firstPass_carryOut_iff {w : Nat} (a b : BitVec w) :
    (addWithCarry a b false).carryOut = true ↔ 2 ^ w ≤ a.toNat + b.toNat := by
  simp [addWithCarry_carryOut]

theorem firstPass_auxCarryOut_iff {w : Nat} (a b : BitVec w) :
    (addWithCarry a b false).auxCarryOut = true ↔ 16 ≤ a.toNat % 16 + b.toNat % 16 := by
  simp [addWithCarry_auxCarryOut]

theorem secondPass_carryOut_iff {w : Nat} (hw : 0 < w) (a b : BitVec w) (cin : Bool) :
    (addWithCarry (addWithCarry a b false).result (BitVec.ofNat w cin.toNat) false).carryOut = true ↔
      2 ^ w ≤ (a.toNat + b.toNat) % 2 ^ w + cin.toNat := by
  rw [firstPass_carryOut_iff, toNat_ofNat_carry hw, addWithCarry_result_add, BitVec.toNat_add]

/-- The low nibble of the first pass's result is that of the sum of the low nibbles: 16 divides `2 ^ w`. -/
theorem secondPass_auxCarryOut_iff {w : Nat} (hw : 4 ≤ w) (a b : BitVec w) (cin : Bool) :
    (addWithCarry (addWithCarry a b false).result (BitVec.ofNat w cin.toNat) false).auxCarryOut = true ↔
      16 ≤ (a.toNat % 16 + b.toNat % 16) % 16 + cin.toNat := by
  have hdvd : 16 ∣ 2 ^ w := Nat.pow_dvd_pow 2 hw
  have hcin : cin.toNat < 16 := cin.toNat_lt.trans (by decide)
  rw [firstPass_auxCarryOut_iff, toNat_ofNat_carry (by omega), addWithCarry_result_add, BitVec.toNat_add,
    Nat.mod_mod_of_dvd _ hdvd, Nat.add_mod, Nat.mod_eq_of_lt hcin]

/-- The two passes never both carry, out of the width or out of bit 3. -/
theorem twoPassAdd_carries_exclusive {w : Nat} (hw : 4 ≤ w) (a b : BitVec w) (cin : Bool) :
    ¬((addWithCarry a b false).carryOut = true ∧
      (addWithCarry (addWithCarry a b false).result (BitVec.ofNat w cin.toNat) false).carryOut = true) ∧
    ¬((addWithCarry a b false).auxCarryOut = true ∧
      (addWithCarry (addWithCarry a b false).result (BitVec.ofNat w cin.toNat) false).auxCarryOut = true) := by
  rw [firstPass_carryOut_iff, firstPass_auxCarryOut_iff, secondPass_carryOut_iff (by omega), secondPass_auxCarryOut_iff hw]
  exact ⟨(carry_of_two_passes a.isLt b.isLt cin.toNat_le).2,
    (carry_of_two_passes (Nat.mod_lt _ (by decide)) (Nat.mod_lt _ (by decide)) cin.toNat_le).2⟩

/-- From the width of a nibble on, two passes give the outputs of the single pass. -/
theorem twoPassAdd_eq_addWithCarry {w : Nat} (hw : 4 ≤ w) (a b : BitVec w) (cin : Bool) :
    twoPassAdd a b cin = addWithCarry a b cin := by
  apply AdderOut.eq_of_outputs
  case result =>
    rw [twoPassAdd, addWithCarry_result_add, addWithCarry_result_add, addWithCarry_result, BitVec.ofNat_add, BitVec.ofNat_add,
      BitVec.ofNat_toNat, BitVec.ofNat_toNat, BitVec.setWidth_eq, BitVec.setWidth_eq]
  case carryOut =>
    rw [twoPassAdd, addWithCarry_carryOut a b cin, Bool.eq_iff_iff, Bool.or_eq_true, firstPass_carryOut_iff,
      secondPass_carryOut_iff (by omega), decide_eq_true_iff]
    exact (carry_of_two_passes a.isLt b.isLt cin.toNat_le).1
  case auxCarryOut =>
    rw [twoPassAdd, addWithCarry_auxCarryOut a b cin, Bool.eq_iff_iff, Bool.or_eq_true, firstPass_auxCarryOut_iff,
      secondPass_auxCarryOut_iff hw, decide_eq_true_iff]
    exact (carry_of_two_passes (Nat.mod_lt _ (by decide)) (Nat.mod_lt _ (by decide)) cin.toNat_le).1

/-! ## Parity (R99) -/

/-- Folding exclusive or over a list tells whether the number of its elements with `p` is odd. -/
theorem foldl_xor_eq_bodd_length_filter {α : Type} (p : α → Bool) (l : List α) (odd : Bool) :
    l.foldl (fun odd i => odd ^^ p i) odd = (odd ^^ (l.filter p).length.bodd) := by
  induction l generalizing odd with
  | nil => simp
  | cons x l ih =>
    rw [List.foldl_cons, ih]
    cases hx : p x <;> simp [hx]

/-- The policy's parity counts ones, the statements' folds exclusive or over the bits. -/
theorem parityEven_eq_evenOnes (v : Word) : parityEven v = Slice0.evenOnes v := by
  rw [Slice0.evenOnes, foldl_xor_eq_bodd_length_filter, Bool.false_xor, parityEven, onesCount, Nat.mod_two_of_bodd]
  cases ((List.range 16).filter fun i => v.getLsbD i).length.bodd <;> rfl

end Machine

/-! ## The statements of the family -/

namespace Slice0

open Machine

/-- Settles O2: the bits of the ripple form spell the sum, and its carries are those of the partial sums. -/
theorem rippleAdderEqualsArithmeticAdder : Obligations.RippleAdderEqualsArithmeticAdder :=
  ⟨rippleAdd_eq_addWithCarry, rippleAdd_eq_addWithCarry⟩

/-- Settles O3: both widths are at least that of a nibble. -/
theorem twoPassSumEqualsCarryInSum : Obligations.TwoPassSumEqualsCarryInSum := by
  intro w hw a b cin
  have hnibble : 4 ≤ w := by omega
  exact ⟨twoPassAdd_eq_addWithCarry hnibble a b cin, twoPassAdd_carries_exclusive hnibble a b cin⟩

/-- Settles O1: the three outputs of the arithmetic form, read as numbers. -/
theorem adderComputesSumCarryAndHalfCarry : Obligations.AdderComputesSumCarryAndHalfCarry := by
  intro w a b cin
  rw [addWithCarry_result, addWithCarry_carryOut, addWithCarry_auxCarryOut]
  exact ⟨BitVec.toNat_ofNat _ _, decide_eq_true_iff, decide_eq_true_iff⟩

/-- Settles O4: the values of the codec and its two round trips. -/
theorem packAndUnpackAreInverse : Obligations.PackAndUnpackAreInverse :=
  ⟨fun h l => ⟨pack_toNat h l, unpack_pack h l⟩, fun v => ⟨unpack_high_toNat v, unpack_low_toNat v, pack_unpack v⟩⟩

/-- Settles O5: the flags are those of the policy, where zero is read as a number and parity counts ones. -/
theorem applyFlagsWritesRequestedFlagsOnly : Obligations.ApplyFlagsWritesRequestedFlagsOnly := by
  intro s mask value
  have hzero : (value == 0) = decide (value.toNat = 0) := by
    rw [Bool.eq_iff_iff, beq_iff_eq, decide_eq_true_iff, ← BitVec.toNat_inj]
    rfl
  refine ⟨?_, rfl, ?_, rfl, rfl, rfl⟩
  · rw [State.applyFlags_flags, Flags.apply, hzero]
  · rw [State.applyFlags_flags, Flags.apply, parityEven_eq_evenOnes]

end Slice0

end Sys2Proof
end

section
/-! Family `41_dispatcher.md`: what a step does to the program counter, which instruction it runs, and what becomes of a run of
steps. The length of an instruction is that of its form's bytes, so R114 is said once for every form. -/

namespace Sys2Proof

/-! ## Lengths by opcode and TRAP by form -/

/-- The table takes as many bytes for an implemented opcode as R70 lists for it. -/
theorem decodeOpcode_length_eq_opcodeLength : ∀ op : Byte, isTrapOpcode op = false →
    (decodeOpcode op).length = Slice0.opcodeLength op :=
  forall_byte_of_row_column (by decide)

theorem eq_trap_of_form {i : Instr} {op : Byte} (h : i.form = .trap op) : i = .trap op := by
  cases i with
  | trap op' => cases h; rfl
  | _ => cases h

namespace Machine

/-! ## The fetched instruction -/

/-- The decoder, given the three bytes at the program counter, answers the instruction that the step fetches (R110 to R112). -/
theorem State.decode_bytesFrom_pc (s : State) :
    decode (s.bytesFrom s.pc 3) =
      .ok (s.fetch, (s.bytesFrom s.pc 3).drop (decodeOpcode (s.readByte s.pc)).length) := by
  have hthird : s.pc + 1 + 1 = s.pc + 2 := BitVec.add_assoc s.pc 1 1
  simp only [State.bytesFrom, hthird, State.fetch]
  exact decode_three _ _ _ []

/-- The encoding of the fetched instruction is as long as its opcode says (R70, R76). -/
theorem State.fetch_form_bytes_length (s : State) (h : isTrapOpcode (s.readByte s.pc) = false) :
    s.fetch.form.bytes.length = Slice0.opcodeLength (s.readByte s.pc) := by
  rw [← decodeOpcode_length_eq_opcodeLength _ h]
  exact encode_length_opcodeTable _ _ _

/-- Only a trapping opcode byte is fetched as TRAP (R79). -/
theorem State.fetch_form_ne_trap (s : State) (h : isTrapOpcode (s.readByte s.pc) = false) (op : Byte) :
    s.fetch.form ≠ .trap op := by
  intro hform
  have hop : s.readByte s.pc = op := State.opcode_of_fetch_form hform
  have htrap : isTrapOpcode (s.readByte s.pc) = true :=
    (opcodeTable_eq_trap_iff _ _ _).mp ((eq_trap_of_form hform).trans (by rw [hop]))
  rw [h] at htrap
  cases htrap

/-! ## The program counter -/

/-- Every form but TRAP advances by the length of its bytes; no form writes the program counter in another way (R114). -/
theorem formNextState_pc {f : Form} (h : ∀ op, f ≠ .trap op) (s : State) :
    (formNextState f s).pc = s.pc + BitVec.ofNat 16 f.bytes.length := by
  cases f with
  | trap op => exact absurd rfl (h op)
  | _ => simp [formNextState, State.bumped, State.addedToA, Form.bytes, imm16Bytes]

/-! ## Runs -/

/-- A run goes on from the next state of its first step. -/
theorem run_succ_of_step_next {M : Host.Core} {s t : M.State} (h : M.step s = .next t) (n : Nat) :
    M.run (n + 1) s = M.run n t := by
  rw [Host.Core.run, h]

/-- A run ends where its first step is refused. -/
theorem run_succ_of_step_refused {M : Host.Core} {s : M.State} {r : M.Refusal} (h : M.step s = .refused r) (n : Nat) :
    M.run (n + 1) s = .refused r := by
  rw [Host.Core.run, h]

/-- A trapped machine does not run (R117). -/
theorem run_succ_of_trapped {s : State} (h : s.trapped = true) (n : Nat) :
    Sys2Proof.core.run (n + 1) s = .refused Refusal.trappedNoStep :=
  run_succ_of_step_refused (M := Sys2Proof.core) (step_of_trapped h) n

/-- A run that is turned away by the name `trappedNoStep` is safe. -/
theorem safeRun_of_run_eq_refused {n : Nat} {s : State}
    (h : Sys2Proof.core.run n s = .refused Refusal.trappedNoStep) : SafeRun n s := by
  rw [SafeRun, h]
  refine ⟨nofun, ?_⟩
  rintro r ⟨⟩
  rfl

/-- A run is safe if it is safe from the next state of its first step on. -/
theorem safeRun_succ_of_step_next {n : Nat} {s t : State} (h : step s = .next t) (hrest : SafeRun n t) :
    SafeRun (n + 1) s := by
  rwa [SafeRun, run_succ_of_step_next (M := Sys2Proof.core) h]

end Machine

/-! ## The statements of the family -/

namespace Slice0

open Machine

/-- Settles O48: a trapping opcode takes the trap, any other form advances by the length of its bytes. -/
theorem stepAdvancesPcByLength : Obligations.StepAdvancesPcByLength := by
  intro s t h
  rw [eq_formNextState_of_step h]
  cases htrap : isTrapOpcode (s.readByte s.pc) with
  | true =>
    rw [State.fetch_of_isTrapOpcode rfl htrap]
    rfl
  | false =>
    rw [formNextState_pc (s.fetch_form_ne_trap htrap), s.fetch_form_bytes_length htrap]
    rfl

/-- Settles O60, by induction on the number of steps: an untrapped machine goes on from its next state, a trapped one is turned
away. -/
theorem everyRunIsSafe : Obligations.EveryRunIsSafe := by
  intro n
  induction n with
  | zero => exact fun s => ⟨nofun, nofun⟩
  | succ n ih =>
    intro s
    cases htrap : s.trapped with
    | false => exact safeRun_succ_of_step_next (step_eq_formNextState htrap) (ih _)
    | true => exact safeRun_of_run_eq_refused (run_succ_of_trapped htrap n)

/-- Settles O12: NOP is the advance alone. -/
theorem nopOnlyAdvances : Obligations.NopOnlyAdvances :=
  ⟨rfl, fun s => (exec_eq_formMeaning .nop s).trans (retire_eq s 1)⟩

/-- Settles O39: the first of the steps is refused already. -/
theorem noStepWhileTrapped : Obligations.NoStepWhileTrapped :=
  fun _ h => ⟨step_of_trapped h, run_succ_of_trapped h⟩

/-- Settles O46: the instruction decoded from the bytes at the program counter is the one fetched. -/
theorem stepRunsTheDecodedInstruction : Obligations.StepRunsTheDecodedInstruction := by
  intro s i rest htrap _ hdecode
  rw [s.decode_bytesFrom_pc] at hdecode
  obtain ⟨rfl, -⟩ := Prod.mk.inj (Except.ok.inj hdecode)
  exact step_of_untrapped htrap

end Slice0

end Sys2Proof
end

section
/-! Family `42_data_transfer.md`: an instruction answers the next state of its form, and the opcode byte of a format is a number of its
codes. A load or move gives the whole next state; a store gives a byte write (SHLD a word write) followed by the advance. -/

namespace Sys2Proof

/-! ## The opcode formats as numbers (R71) -/

theorem formatMOV_eq_ofNat (dst src : Operand) :
    formatMOV dst src = BitVec.ofNat 8 (0x40 + 8 * dst.code.toNat + src.code.toNat) := by
  have codes : ∀ ddd sss : BitVec 3, (0b01#2 ++ ddd ++ sss : Byte) = BitVec.ofNat 8 (0x40 + 8 * ddd.toNat + sss.toNat) := by
    decide
  exact codes dst.code src.code

theorem formatDDD_eq_ofNat (dst : Operand) (fn : BitVec 3) :
    formatDDD dst fn = BitVec.ofNat 8 (fn.toNat + 8 * dst.code.toNat) := by
  have codes : ∀ ddd fn : BitVec 3, (0b00#2 ++ ddd ++ fn : Byte) = BitVec.ofNat 8 (fn.toNat + 8 * ddd.toNat) := by decide
  exact codes dst.code fn

theorem formatRP_eq_ofNat (rp : Pair) (fn : BitVec 4) :
    formatRP rp fn = BitVec.ofNat 8 (fn.toNat + 16 * rp.code.toNat) := by
  have codes : ∀ (pp : BitVec 2) (fn : BitVec 4), (0b00#2 ++ pp ++ fn : Byte) = BitVec.ofNat 8 (fn.toNat + 16 * pp.toNat) := by
    decide
  exact codes rp.code fn

/-! ## The address in a register pair -/

/-- An address is that of a pair when it is the number the pair's registers spell (R23). -/
theorem eq_pack_iff_toNat (x : Word) (high low : Byte) : x = pack high low ↔ x.toNat = high.toNat * 256 + low.toNat := by
  rw [← pack_toNat, BitVec.toNat_inj]

namespace Machine

/-! ## The state after an instruction of a form -/

/-- Every instruction answers the next state of its form, from every state (R113). -/
theorem exec_eq_formNextState (i : Instr) (s : State) : exec i s = .next (formNextState i.form s) := by
  rw [exec_eq_formMeaning, formMeaning_eq_formNextState]

/-- An instruction that writes one byte and advances: the byte at the address is the one written, every other byte reads as before,
and nothing but memory and the program counter changes (R53, R114). -/
theorem exists_next_of_writeByte {i : Instr} {s : State} {a n : Word} {v : Byte}
    (h : formNextState i.form s = (s.writeByte a v).advance n) :
    ∃ t : State, exec i s = .next t ∧ t = { s with mem := t.mem, pc := s.pc + n } ∧
      ∀ x : Word, t.readByte x = if x = a then v else s.readByte x := by
  refine ⟨(s.writeByte a v).advance n, ?_, rfl, fun x => ?_⟩
  · rw [exec_eq_formNextState, h]
  · rw [State.readByte_advance, State.readByte_writeByte]

/-- STAX stores A at the number that the pair's registers spell (R128). -/
theorem exists_next_of_form_stax {i : Instr} {s : State} {rp : Pair} {high low : Byte} (h : i.form = .stax rp)
    (hpair : s.readPair rp = pack high low) :
    ∃ t : State, exec i s = .next t ∧ t = { s with mem := t.mem, pc := s.pc + 1 } ∧
      ∀ x : Word, t.readByte x = if x.toNat = high.toNat * 256 + low.toNat then s.regs.a else s.readByte x := by
  simp only [← eq_pack_iff_toNat]
  exact exists_next_of_writeByte (by rw [h, ← hpair, formNextState])

end Machine

/-! ## The statements of the family -/

namespace Slice0

open Machine

/-- Settles O13: the form MOV writes the destination register with the source register. -/
theorem movCopiesRegisterToRegister : Obligations.MovCopiesRegisterToRegister := by
  intro i dst src s h
  constructor
  · rw [encode, h, Form.bytes, formatMOV_eq_ofNat]
    rfl
  · rw [exec_eq_formNextState, h]
    rfl

/-- Settles O14: the operand M reads the byte at HL, and HL is read before the register is written. -/
theorem movLoadsRegisterFromMemory : Obligations.MovLoadsRegisterFromMemory := by
  intro i dst s h
  constructor
  · rw [encode, h, Form.bytes, formatMOV_eq_ofNat, Nat.add_right_comm]
    rfl
  · rw [exec_eq_formNextState, h, ← State.readPair_hl]
    rfl

/-- Settles O15: writing the operand M is a byte write at HL. -/
theorem movStoresRegisterToMemory : Obligations.MovStoresRegisterToMemory := by
  intro i r s h
  constructor
  · rw [encode, h, Form.bytes, formatMOV_eq_ofNat]
    rfl
  · rw [← State.readPair_hl]
    exact exists_next_of_writeByte (by rw [h]; rfl)

/-- Settles O16: the form MVI writes the destination register with the immediate. -/
theorem mviLoadsRegister : Obligations.MviLoadsRegister := by
  intro i dst d8 s h
  constructor
  · rw [encode, h, Form.bytes, formatDDD_eq_ofNat]
    rfl
  · rw [exec_eq_formNextState, h]
    rfl

/-- Settles O18, by the pair: BC, DE and HL take the two bytes that the immediate unpacks into, SP takes it whole. -/
theorem lxiLoadsLowAndHighByte : Obligations.LxiLoadsLowAndHighByte := by
  intro i rp byte2 byte3 s h
  constructor
  · rw [encode, h, Form.bytes, imm16Bytes_pack, formatRP_eq_ofNat]
    rfl
  · rw [exec_eq_formNextState, h]
    cases rp with
    | bc | de | hl => simp only [formNextState, State.writePair, State.advance, unpack_pack]
    | sp => rfl

/-- Settles O17: writing the operand M is a byte write at HL. -/
theorem mviStoresToMemory : Obligations.MviStoresToMemory := by
  intro d8 s
  rw [← State.readPair_hl]
  exact ⟨rfl, exists_next_of_writeByte rfl⟩

/-- Settles O19: the two pairs of STAX, packed from their registers. -/
theorem staxStoresAccumulator : Obligations.StaxStoresAccumulator :=
  ⟨rfl, rfl, fun _ => ⟨exists_next_of_form_stax (rp := .bc) rfl rfl, exists_next_of_form_stax (rp := .de) rfl rfl⟩⟩

/-- Settles O20: the two pairs of LDAX, packed from their registers. -/
theorem ldaxLoadsAccumulator : Obligations.LdaxLoadsAccumulator := by
  refine ⟨rfl, rfl, fun s => ?_⟩
  simp only [← pack_eq_ofNat]
  exact ⟨exec_eq_formNextState .ldaxB s, exec_eq_formNextState .ldaxD s⟩

/-- Settles O21: STA is a byte write of A at the address operand. -/
theorem staStoresAccumulator : Obligations.StaStoresAccumulator :=
  fun byte2 byte3 _ => ⟨congrArg (0x32 :: ·) (imm16Bytes_pack byte3 byte2), exists_next_of_writeByte rfl⟩

/-- Settles O22: the form LDA writes A with the byte at the address operand. -/
theorem ldaLoadsAccumulator : Obligations.LdaLoadsAccumulator :=
  fun byte2 byte3 s => ⟨congrArg (0x3A :: ·) (imm16Bytes_pack byte3 byte2), exec_eq_formNextState (.lda (pack byte3 byte2)) s⟩

/-- Settles O23: a word write of HL is a byte write of L and one of H, at two different addresses. -/
theorem shldStoresLThenH : Obligations.ShldStoresLThenH := by
  refine fun byte2 byte3 s => ⟨congrArg (0x22 :: ·) (imm16Bytes_pack byte3 byte2), _, exec_eq_formNextState _ s, rfl, fun x => ?_⟩
  obtain ⟨-, hbytes, -⟩ := wordAccessIsTwoByteAccesses s (pack byte3 byte2) (s.readPair .hl) x
  rw [← unpack_low_eq_ofNat, ← unpack_high_eq_ofNat] at hbytes
  have hunpack : unpack (s.readPair .hl) = (s.regs.h, s.regs.l) := unpack_pack _ _
  rwa [hunpack] at hbytes

/-- Settles O24: a word read is packed from its two bytes, and HL takes them apart again. -/
theorem lhldLoadsLThenH : Obligations.LhldLoadsLThenH := by
  refine fun byte2 byte3 s => ⟨congrArg (0x2A :: ·) (imm16Bytes_pack byte3 byte2), ?_⟩
  rw [exec_eq_formNextState]
  simp only [Instr.form, formNextState, State.writePair, State.readWord, State.advance, unpack_pack]

end Slice0

end Sys2Proof
end

section
/-! Family `43_arithmetic.md`: the flags that the policy gives an 8-bit result are those of the statements, and each arithmetic form
is an operand, pair or accumulator write with those flags and the advance. DCR and DCX add the two's complement of 1 (R95). -/

namespace Sys2Proof

/-! ## The ALU format as a number (R71) -/

theorem formatALU_eq_ofNat (fn : BitVec 3) (src : Operand) :
    formatALU fn src = BitVec.ofNat 8 (0x80 + 8 * fn.toNat + src.code.toNat) := by
  have codes : ∀ fn sss : BitVec 3, (0b10#2 ++ fn ++ sss : Byte) = BitVec.ofNat 8 (0x80 + 8 * fn.toNat + sss.toNat) := by
    decide
  exact codes fn src.code

/-! ## The halves of a 16-bit sum -/

theorem unpack_ofNat_high (n : Nat) : (unpack (BitVec.ofNat 16 n)).1 = BitVec.ofNat 8 (n / 256) := by
  apply BitVec.eq_of_toNat_eq
  rw [unpack_high_toNat, BitVec.toNat_ofNat, BitVec.toNat_ofNat]
  omega

theorem unpack_ofNat_low (n : Nat) : (unpack (BitVec.ofNat 16 n)).2 = BitVec.ofNat 8 n := by
  apply BitVec.eq_of_toNat_eq
  rw [unpack_low_toNat, BitVec.toNat_ofNat, BitVec.toNat_ofNat]
  omega

namespace Machine

open Slice0 (addressHL evenOnes resultFlags)

/-! ## Adding 1 and its two's complement (R95) -/

/-- DCR adds 0xFF (R143). -/
theorem byte_add_neg_one (x : Byte) : x + 0xFF = x - 1 := (BitVec.sub_eq_add_neg x 1).symm

/-- DCX adds 0xFFFF (R146). -/
theorem word_add_neg_one (x : Word) : x + 0xFFFF = x - 1 := (BitVec.sub_eq_add_neg x 1).symm

/-- Adding 1 carries out of the low nibble when the nibble is full (R141). -/
theorem auxCarryOut_add_one (x : Byte) : (addWithCarry x 0x01 false).auxCarryOut = decide (x.toNat % 16 = 15) := by
  have hnibble : 16 ≤ x.toNat % 16 + 1 ↔ x.toNat % 16 = 15 := by omega
  exact decide_eq_decide.mpr hnibble

/-- Raw polarity: subtracting 1 carries out of the low nibble when the nibble has no need to borrow (R143). -/
theorem auxCarryOut_add_neg_one (x : Byte) : (addWithCarry x 0xFF false).auxCarryOut = decide (x.toNat % 16 ≠ 0) := by
  have hnibble : 16 ≤ x.toNat % 16 + 15 ↔ x.toNat % 16 ≠ 0 := by omega
  exact decide_eq_decide.mpr hnibble

/-! ## The flags of an 8-bit result: the policy sees it as a 16-bit value -/

theorem setWidth_beq_zero (v : Byte) : (v.setWidth 16 == 0) = (v == 0) := by
  rw [Bool.eq_iff_iff, beq_iff_eq, beq_iff_eq, ← BitVec.toNat_inj, ← BitVec.toNat_inj,
    BitVec.toNat_setWidth_of_le (by decide)]
  rfl

/-- Bit 7 is the sign of the 8-bit view (R98). -/
theorem setWidth_getLsbD_seven (v : Byte) : (v.setWidth 16).getLsbD 7 = decide (128 ≤ v.toNat) := by
  rw [BitVec.getLsbD_setWidth, ← BitVec.msb_eq_getLsbD_last, BitVec.msb_eq_decide]
  rfl

/-- The eight bits above a byte are 0 and leave the parity (R99). -/
theorem parityEven_setWidth (v : Byte) : parityEven (v.setWidth 16) = evenOnes v := by
  rw [parityEven_eq_evenOnes]
  simp [evenOnes, List.range_succ, BitVec.getLsbD_setWidth]

/-- The flags of ADD and ADC (R103). -/
theorem Flags.apply_all (f : Flags) (cy ac : Bool) (res : Byte) :
    f.apply (FlagMask.all cy ac) (res.setWidth 16) = resultFlags res cy ac := by
  rw [resultFlags, ← setWidth_beq_zero, ← setWidth_getLsbD_seven, ← parityEven_setWidth]
  rfl

/-- The flags of INR and DCR: not to request CY is to write back the value it has (R102, R103). -/
theorem Flags.apply_zspac (f : Flags) (ac : Bool) (res : Byte) :
    f.apply (FlagMask.zspac ac) (res.setWidth 16) = resultFlags res f.cy ac :=
  f.apply_all f.cy ac res

/-! ## The state after an arithmetic instruction -/

/-- INR and DCR: the operand, the flags of the result and the advance (R141 to R144). -/
theorem State.bumped_eq (delta : Byte) (o : Operand) (s : State) :
    s.bumped delta o = { s.writeOperand o (s.readOperand o + delta) with
      flags := resultFlags (s.readOperand o + delta) s.flags.cy (addWithCarry (s.readOperand o) delta false).auxCarryOut
      pc := s.pc + 1 } := by
  rw [State.bumped, State.applyFlags, State.writeOperand_flags, Flags.apply_zspac, addWithCarry_result_add, State.advance,
    State.writeFlags_pc, State.writeOperand_pc]
  rfl

/-- INR M and DCR M change the byte at HL and no other (R142, R144). -/
theorem exists_next_of_bumped_m {i : Instr} {s : State} {delta result : Byte} {ac : Bool}
    (h : formNextState i.form s = s.bumped delta .m) (hresult : s.readByte (addressHL s) + delta = result)
    (hac : (addWithCarry (s.readByte (addressHL s)) delta false).auxCarryOut = ac) :
    ∃ t : State, exec i s = .next t ∧
      t = { s with mem := t.mem, flags := resultFlags result s.flags.cy ac, pc := s.pc + 1 } ∧
      ∀ x : Word, t.readByte x = if x = addressHL s then result else s.readByte x := by
  have hread : s.readOperand .m = s.readByte (addressHL s) := congrArg s.readByte s.readPair_hl
  refine ⟨s.bumped delta .m, ?_, ?_, fun x => ?_⟩
  · rw [exec_eq_formNextState, h]
  · rw [State.bumped_eq, hread, hresult, hac]
    rfl
  · simp only [State.readByte_bumped, addWithCarry_result_add, hread, hresult, State.readPair_hl, true_and]

/-- A pair write and the advance, as one update of the program counter (R114). -/
theorem State.advance_writePair (s : State) (rp : Pair) (v n : Word) :
    (s.writePair rp v).advance n = { s.writePair rp v with pc := s.pc + n } := by
  rw [State.advance, State.writePair_pc]

/-- ADD and ADC: A, the flags of the result and the advance (R150 to R154). -/
theorem State.addedToA_eq (o : Operand) (cin : Bool) (s : State) :
    s.addedToA o cin = { s with
      regs := { s.regs with a := (addWithCarry s.regs.a (s.readOperand o) cin).result }
      flags := resultFlags (addWithCarry s.regs.a (s.readOperand o) cin).result
        (addWithCarry s.regs.a (s.readOperand o) cin).carryOut (addWithCarry s.regs.a (s.readOperand o) cin).auxCarryOut
      pc := s.pc + 1 } := by
  rw [State.addedToA, State.applyFlags, Flags.apply_all]
  rfl

end Machine

/-! ## The statements of the family -/

namespace Slice0

open Machine

/-- Settles O25: INR of a register adds 1 to the operand. -/
theorem inrIncrementsRegister : Obligations.InrIncrementsRegister := by
  intro i r s h
  constructor
  · rw [encode, h, Form.bytes, formatDDD_eq_ofNat]
    rfl
  · rw [exec_eq_formNextState, h, formNextState, State.bumped_eq, auxCarryOut_add_one]
    rfl

/-- Settles O27: DCR of a register adds 0xFF to the operand. -/
theorem dcrDecrementsRegister : Obligations.DcrDecrementsRegister := by
  intro i r s h
  constructor
  · rw [encode, h, Form.bytes, formatDDD_eq_ofNat]
    rfl
  · rw [exec_eq_formNextState, h, formNextState, State.bumped_eq, auxCarryOut_add_neg_one, byte_add_neg_one]
    rfl

/-- Settles O29: INX writes the pair and advances. -/
theorem inxIncrementsPair : Obligations.InxIncrementsPair := by
  intro i rp s h
  constructor
  · rw [encode, h, Form.bytes, formatRP_eq_ofNat]
    rfl
  · rw [exec_eq_formNextState, h, formNextState, State.advance_writePair]

/-- Settles O30: DCX writes the pair and advances; it adds 0xFFFF. -/
theorem dcxDecrementsPair : Obligations.DcxDecrementsPair := by
  intro i rp s h
  constructor
  · rw [encode, h, Form.bytes, formatRP_eq_ofNat]
    rfl
  · rw [exec_eq_formNextState, h, formNextState, State.advance_writePair, word_add_neg_one]

/-- Settles O31: H and L take the halves of the sum, CY its carry. -/
theorem dadAddsPairToHL : Obligations.DadAddsPairToHL := by
  intro i rp s h
  constructor
  · rw [encode, h, Form.bytes, formatRP_eq_ofNat]
    rfl
  · rw [exec_eq_formNextState, h, formNextState, State.readPair_hl, ← addWithCarry_result_add, State.writePair,
      addWithCarry_result, unpack_ofNat_high, unpack_ofNat_low]
    rfl

/-- Settles O32: without a carry-in the adder's result is the machine sum. -/
theorem addAddsOperandToAccumulator : Obligations.AddAddsOperandToAccumulator := by
  intro i o s h
  constructor
  · rw [encode, h, Form.bytes, formatALU_eq_ofNat]
    rfl
  · rw [exec_eq_formNextState, h, formNextState, State.addedToA_eq, addWithCarry_result_add]
    rfl

/-- Settles O33: the carry-in of the adder is CY before the instruction. -/
theorem adcAddsOperandAndCarryToAccumulator : Obligations.AdcAddsOperandAndCarryToAccumulator := by
  intro i o s h
  constructor
  · rw [encode, h, Form.bytes, formatALU_eq_ofNat]
    rfl
  · rw [exec_eq_formNextState, h, formNextState, State.addedToA_eq]
    rfl

/-- Settles O26: INR M adds 1 to the byte at HL. -/
theorem inrIncrementsMemory : Obligations.InrIncrementsMemory :=
  ⟨rfl, fun _ => exists_next_of_bumped_m (delta := 0x01) rfl rfl (auxCarryOut_add_one _)⟩

/-- Settles O28: DCR M adds 0xFF to the byte at HL. -/
theorem dcrDecrementsMemory : Obligations.DcrDecrementsMemory :=
  ⟨rfl, fun _ => exists_next_of_bumped_m (delta := 0xFF) rfl (byte_add_neg_one _) (auxCarryOut_add_neg_one _)⟩

end Slice0

end Sys2Proof
end

section
/-! Family `44_rotate_logical.md`: the rotated A as a number, and as a rotation of a word: of A under RLC and RRC, of CY and A taken as
one 9-bit word under RAL and RAR. A row of rotates is then one rotation, by as many places. -/

namespace Sys2Proof

/-! ## The bits of a byte as numbers -/

theorem getLsbD_zero_eq_decide (a : Byte) : a.getLsbD 0 = decide (a.toNat % 2 = 1) := Nat.testBit_zero _

theorem getLsbD_seven_eq_decide (a : Byte) : a.getLsbD 7 = decide (a.toNat ≥ 128) := by
  rw [← BitVec.msb_eq_getLsbD_last, BitVec.msb_eq_decide]

theorem bitZero_toNat (a : Byte) : (a.extractLsb' 0 1).toNat = a.toNat % 2 := BitVec.extractLsb'_toNat 0 1 a

theorem bitSeven_toNat (a : Byte) : (a.extractLsb' 7 1).toNat = a.toNat / 128 := by
  have ha := a.isLt
  simp only [BitVec.extractLsb'_toNat, Nat.shiftRight_eq_div_pow, Nat.reducePow]
  omega

theorem append_toNat {m n : Nat} (x : BitVec m) (y : BitVec n) : (x ++ y).toNat = x.toNat * 2 ^ n + y.toNat := by
  rw [BitVec.toNat_append, ← Nat.shiftLeft_add_eq_or_of_lt y.isLt, Nat.shiftLeft_eq]

/-- A byte moved one place up, with a bit put in at bit 0 (R160, R162). -/
theorem shiftInLow_eq_ofNat (a : Byte) (x : BitVec 1) :
    a.extractLsb' 0 7 ++ x = BitVec.ofNat 8 (a.toNat * 2 + x.toNat) := by
  apply BitVec.eq_of_toNat_eq
  simp only [append_toNat, BitVec.extractLsb'_toNat, Nat.shiftRight_zero, BitVec.toNat_ofNat, Nat.reducePow]
  omega

/-- A byte moved one place down, with a bit put in at bit 7 (R161, R163). -/
theorem shiftInHigh_eq_ofNat (a : Byte) (x : BitVec 1) :
    x ++ a.extractLsb' 1 7 = BitVec.ofNat 8 (a.toNat / 2 + x.toNat * 128) := by
  apply BitVec.eq_of_toNat_eq
  simp only [append_toNat, BitVec.extractLsb'_toNat, Nat.shiftRight_eq_div_pow, BitVec.toNat_ofNat, Nat.reducePow]
  omega

theorem not_eq_ofNat (a : Byte) : ~~~a = BitVec.ofNat 8 (255 - a.toNat) := by
  apply BitVec.eq_of_toNat_eq
  rw [BitVec.toNat_not, BitVec.toNat_ofNat]
  omega

/-! ## Rotations of a word -/

theorem rotateLeft_eq_self {w n : Nat} (x : BitVec w) (h : n % w = 0) : x.rotateLeft n = x := by
  apply BitVec.eq_of_getElem_eq
  intro i hi
  simp [BitVec.getElem_rotateLeft, h]

theorem rotateLeft_rotateLeft {w : Nat} (x : BitVec w) (m n : Nat) :
    (x.rotateLeft m).rotateLeft n = x.rotateLeft (m + n) := by
  apply BitVec.eq_of_getMsbD_eq
  intro i hi
  have hlt : (n + i) % w < w := Nat.mod_lt _ (by omega)
  simp only [BitVec.getMsbD_rotateLeft, hlt, decide_true, Bool.true_and, Nat.add_mod_mod, Nat.add_assoc]

theorem rotateRight_rotateLeft {w : Nat} (x : BitVec w) (n : Nat) : (x.rotateLeft n).rotateRight n = x := by
  apply BitVec.eq_of_getElem_eq
  intro i hi
  have hlt : n % w < w := Nat.mod_lt _ (by omega)
  rw [BitVec.getElem_rotateRight]
  split
  · rw [BitVec.getElem_rotateLeft, dif_neg (by omega)]
    simp only [Nat.add_sub_cancel_left]
  · rw [BitVec.getElem_rotateLeft, dif_pos (by omega)]
    simp only [show w - n % w + (i - (w - n % w)) = i by omega]

/-- To rotate one place left is to take the top bit to the bottom. -/
theorem rotateLeft_one_append {w : Nat} (hw : 0 < w) (x : BitVec 1) (y : BitVec w) :
    (x ++ y).rotateLeft 1 = (y ++ x).cast (Nat.add_comm w 1) := by
  have hone : 1 % (1 + w) = 1 := Nat.mod_eq_of_lt (by omega)
  apply BitVec.eq_of_getElem_eq
  intro i hi
  simp only [BitVec.getElem_rotateLeft, BitVec.getElem_cast, BitVec.getElem_append, hone]
  by_cases h : i < 1
  · rw [dif_pos h, dif_pos h, dif_neg (by omega)]
    simp only [show 1 + w - 1 + i - w = i by omega]
  · rw [dif_neg h, dif_neg h, dif_pos (by omega)]

theorem high_append_low {v w : Nat} (x : BitVec (v + w)) : x.extractLsb' w v ++ x.extractLsb' 0 w = x :=
  (BitVec.extractLsb'_append_extractLsb'_eq_extractLsb' (Nat.zero_add w).symm).trans BitVec.extractLsb'_eq_self

/-! ## A as an 8-bit ring (R160, R161) -/

theorem bitSeven_append (a : Byte) : a.extractLsb' 7 1 ++ a.extractLsb' 0 7 = a := high_append_low (v := 1) (w := 7) a

theorem append_bitZero (a : Byte) : a.extractLsb' 1 7 ++ a.extractLsb' 0 1 = a := high_append_low (v := 7) (w := 1) a

theorem rlc_eq_rotateLeft (a : Byte) : a.extractLsb' 0 7 ++ a.extractLsb' 7 1 = a.rotateLeft 1 := by
  have h := rotateLeft_one_append (by decide) (a.extractLsb' 7 1) (a.extractLsb' 0 7)
  rw [bitSeven_append] at h
  exact h.symm

theorem rrc_eq_rotateRight (a : Byte) : a.extractLsb' 0 1 ++ a.extractLsb' 1 7 = a.rotateRight 1 := by
  have h : (a.extractLsb' 0 1 ++ a.extractLsb' 1 7).rotateLeft 1 = a :=
    (rotateLeft_one_append (by decide) _ _).trans (append_bitZero a)
  rw [← congrArg (BitVec.rotateRight · 1) h, rotateRight_rotateLeft]

/-! ## CY and A as a 9-bit ring (R162, R163) -/

theorem ofBool_getLsbD {w : Nat} (x : BitVec w) (i : Nat) : BitVec.ofBool (x.getLsbD i) = x.extractLsb' i 1 := by
  apply BitVec.eq_of_getElem_eq
  intro j hj
  simp [show j = 0 by omega]

theorem ral_eq_rotateLeft (a : Byte) (cy : Bool) :
    BitVec.ofBool (a.getLsbD 7) ++ (a.extractLsb' 0 7 ++ BitVec.ofBool cy) = (BitVec.ofBool cy ++ a).rotateLeft 1 := by
  rw [rotateLeft_one_append (by decide), BitVec.append_assoc', ofBool_getLsbD, bitSeven_append]

theorem rar_eq_rotateRight (a : Byte) (cy : Bool) :
    BitVec.ofBool (a.getLsbD 0) ++ (BitVec.ofBool cy ++ a.extractLsb' 1 7) = (BitVec.ofBool cy ++ a).rotateRight 1 := by
  have h : (BitVec.ofBool (a.getLsbD 0) ++ (BitVec.ofBool cy ++ a.extractLsb' 1 7)).rotateLeft 1 = BitVec.ofBool cy ++ a := by
    rw [rotateLeft_one_append (by decide), BitVec.append_assoc, ofBool_getLsbD, append_bitZero]
    rfl
  rw [← h, rotateRight_rotateLeft]

namespace Machine

/-- CY and A as one 9-bit word, CY at the top: the ring that RAL and RAR turn (R162, R163). -/
def State.carryA (s : State) : BitVec 9 := BitVec.ofBool s.flags.cy ++ s.regs.a

/-- CY and A written from one 9-bit word. -/
def State.withCarryA (s : State) (x : BitVec 9) : State := (s.writeReg .a (x.extractLsb' 0 8)).setCarry (x.getLsbD 8)

theorem State.writeReg_setCarry_eq_withCarryA (s : State) (a : Byte) (cy : Bool) :
    (s.writeReg .a a).setCarry cy = s.withCarryA (BitVec.ofBool cy ++ a) := by
  have hcy : (BitVec.ofBool cy ++ a).getLsbD 8 = cy := by
    rw [BitVec.getLsbD_append, if_neg (by decide)]
    cases cy <;> rfl
  rw [State.withCarryA, BitVec.extractLsb'_append_eq_right, hcy]

theorem State.withCarryA_carryA (s : State) : s.withCarryA s.carryA = s :=
  (s.writeReg_setCarry_eq_withCarryA s.regs.a s.flags.cy).symm

theorem State.carryA_withCarryA (s : State) (x : BitVec 9) : (s.withCarryA x).carryA = x := by
  have hsplit : BitVec.ofBool (x.getLsbD 8) ++ x.extractLsb' 0 8 = x := by
    rw [ofBool_getLsbD]
    exact high_append_low (v := 1) (w := 8) x
  exact hsplit

/-- A second write of CY and A overwrites the first, and the advance between them stays. -/
theorem State.withCarryA_advance_withCarryA (s : State) (x y : BitVec 9) (n : Word) :
    ((s.withCarryA x).advance n).withCarryA y = (s.withCarryA y).advance n := rfl

theorem State.carryA_advance (s : State) (n : Word) : (s.advance n).carryA = s.carryA := rfl

theorem State.advance_advance (s : State) (m n : Word) : (s.advance m).advance n = s.advance (m + n) := by
  rw [State.advance, State.advance, State.advance, BitVec.add_assoc]

/-! ## The state after a rotate -/

theorem formNextState_rlc_regs (s : State) :
    (formNextState .rlc s).regs = s.regs.write .a (s.regs.a.rotateLeft 1) := by
  rw [← rlc_eq_rotateLeft]
  rfl

theorem formNextState_rrc_regs (s : State) :
    (formNextState .rrc s).regs = s.regs.write .a (s.regs.a.rotateRight 1) := by
  rw [← rrc_eq_rotateRight]
  rfl

theorem formNextState_ral (s : State) : formNextState .ral s = (s.withCarryA (s.carryA.rotateLeft 1)).advance 1 := by
  rw [State.carryA, ← ral_eq_rotateLeft, ← State.writeReg_setCarry_eq_withCarryA]
  rfl

theorem formNextState_rar (s : State) : formNextState .rar s = (s.withCarryA (s.carryA.rotateRight 1)).advance 1 := by
  rw [State.carryA, ← rar_eq_rotateRight, ← State.writeReg_setCarry_eq_withCarryA]
  rfl

/-! ## Rotates in a row -/

/-- An instruction run `n` times in a row is the next state of its form, taken `n` times. -/
theorem execTimes_eq_iterate (i : Instr) (n : Nat) (s : State) :
    Slice0.execTimes i n s = .next ((formNextState i.form)^[n] s) := by
  induction n generalizing s with
  | zero => rfl
  | succ k ih =>
    rw [Slice0.execTimes, exec_eq_formNextState]
    exact ih _

theorem iterate_rlc_regs (n : Nat) (s : State) :
    ((formNextState .rlc)^[n] s).regs = s.regs.write .a (s.regs.a.rotateLeft n) := by
  induction n with
  | zero =>
    rw [rotateLeft_eq_self _ rfl]
    rfl
  | succ k ih =>
    rw [Function.iterate_succ_apply', formNextState_rlc_regs, ih, ← rotateLeft_rotateLeft]
    rfl

theorem iterate_ral (n : Nat) (s : State) :
    (formNextState .ral)^[n] s = (s.withCarryA (s.carryA.rotateLeft n)).advance (BitVec.ofNat 16 n) := by
  induction n with
  | zero => rw [rotateLeft_eq_self _ rfl, State.withCarryA_carryA, State.advance, BitVec.add_zero, Function.iterate_zero_apply]
  | succ k ih =>
    rw [Function.iterate_succ_apply', ih, formNextState_ral, State.carryA_advance, State.carryA_withCarryA,
      State.withCarryA_advance_withCarryA, rotateLeft_rotateLeft, State.advance_advance, BitVec.ofNat_add]
    rfl

/-- After nine RAL only the program counter differs. -/
theorem nine_ral (s : State) : (formNextState .ral)^[9] s = s.advance 9 := by
  rw [iterate_ral, rotateLeft_eq_self _ rfl, State.withCarryA_carryA]
  rfl

/-- After RAL and RAR only the program counter differs. -/
theorem rar_ral (s : State) : formNextState .rar (formNextState .ral s) = s.advance 2 := by
  rw [formNextState_rar, formNextState_ral, State.carryA_advance, State.carryA_withCarryA, rotateRight_rotateLeft,
    State.withCarryA_advance_withCarryA, State.withCarryA_carryA, State.advance_advance]
  rfl

theorem eight_rlc_regs (s : State) : ((formNextState .rlc)^[8] s).regs = s.regs := by
  rw [iterate_rlc_regs, rotateLeft_eq_self _ rfl]
  rfl

theorem rrc_rlc_regs (s : State) : (formNextState .rrc (formNextState .rlc s)).regs = s.regs := by
  rw [formNextState_rrc_regs, formNextState_rlc_regs]
  exact congrArg (s.regs.write .a) (rotateRight_rotateLeft s.regs.a 1)

end Machine

/-! ## The statements of the family -/

namespace Slice0

open Machine

/-- Settles O34: bit 7 or bit 0 moves into CY; the bit that moves in is the same one, or CY as it was. -/
theorem rotatesMoveAccumulatorByOneBit : Obligations.RotatesMoveAccumulatorByOneBit := by
  refine ⟨rfl, rfl, rfl, rfl, fun s => ?_⟩
  -- CY first: the number of bit 0 in A would hide the test of it in CY.
  simp only [← getLsbD_seven_eq_decide, ← getLsbD_zero_eq_decide]
  simp only [← bitSeven_toNat, ← bitZero_toNat, ← BitVec.toNat_ofBool, ← shiftInLow_eq_ofNat, ← shiftInHigh_eq_ofNat]
  exact ⟨exec_eq_formNextState .rlc s, exec_eq_formNextState .rrc s, exec_eq_formNextState .ral s, exec_eq_formNextState .rar s⟩

/-- Settles O35: a row of rotates is one rotation, and a rotation by the width of the ring, or one with its inverse, is none. -/
theorem rotatesAreRings : Obligations.RotatesAreRings := fun s =>
  ⟨⟨_, execTimes_eq_iterate .rlc 8 s, eight_rlc_regs s⟩,
    ⟨s.advance 9, (execTimes_eq_iterate .ral 9 s).trans (congrArg _ (nine_ral s)), rfl, rfl⟩,
    ⟨_, _, exec_eq_formNextState .rlc s, exec_eq_formNextState .rrc _, rrc_rlc_regs s⟩,
    _, s.advance 2, exec_eq_formNextState .ral s, (exec_eq_formNextState .rar _).trans (congrArg _ (rar_ral s)), rfl, rfl⟩

/-- Settles O36: the complement of A is 255 - A. -/
theorem cmaCmcStcChangeOneThing : Obligations.CmaCmcStcChangeOneThing := by
  refine ⟨rfl, rfl, rfl, fun s => ?_⟩
  rw [← not_eq_ofNat]
  exact ⟨exec_eq_formNextState .cma s, exec_eq_formNextState .cmc s, exec_eq_formNextState .stc s⟩

end Slice0

end Sys2Proof
end

section
/-! Family `45_unimplemented.md`: the members of each group of trapping opcodes, by number, so that the size of a group is the length of
its list. -/

namespace Sys2Proof

/-! ## The members of a group (R171 to R193) -/

/-- The opcodes of a group. A three-bit field of a bit pattern gives eight numbers, 1 apart for a field in the low bits and 8 apart
for one in bits 5 to 3; a pair field gives four numbers, 16 apart. -/
def TrapGroup.opcodes (g : TrapGroup) : List Nat :=
  match g with
  | .sub => List.range' 0x90 8
  | .sbb => List.range' 0x98 8
  | .ana => List.range' 0xA0 8
  | .xra => List.range' 0xA8 8
  | .ora => List.range' 0xB0 8
  | .cmp => List.range' 0xB8 8
  | .immediate => List.range' 0xC6 8 8
  | .jump => 0xC3 :: List.range' 0xC2 8 8
  | .call => 0xCD :: List.range' 0xC4 8 8
  | .ret => 0xC9 :: List.range' 0xC0 8 8
  | .rst => List.range' 0xC7 8 8
  | .pchl => [0xE9]
  | .push => List.range' 0xC5 4 16
  | .pop => List.range' 0xC1 4 16
  | .inOut => [0xDB, 0xD3]
  | .xthlSphl => [0xE3, 0xF9]
  | .xchg => [0xEB]
  | .hlt => [0x76]
  | .daa => [0x27]
  | .ei => [0xFB]
  | .di => [0xF3]
  | .rimSim => [0x20, 0x30]
  | .unassigned => [0x08, 0x10, 0x18, 0x28, 0x38, 0xCB, 0xD9, 0xDD, 0xED, 0xFD]

theorem TrapGroup.opcodes_nodup (g : TrapGroup) : g.opcodes.Nodup := by
  cases g <;> decide

theorem TrapGroup.opcodes_lt (g : TrapGroup) : ∀ n ∈ g.opcodes, n < 256 := by
  cases g <;> decide

/-- The patterns and numbers that `trapGroup` tests for a group match opcodes of its list only. -/
theorem mem_opcodes_of_trapGroup : ∀ op : Byte, ∀ g ∈ trapGroup op, op.toNat ∈ g.opcodes :=
  forall_byte (by decide +kernel)

/-- No opcode of a group's list is taken by a test that `trapGroup` makes before the group's own. -/
theorem trapGroup_of_mem_opcodes (g : TrapGroup) : ∀ n ∈ g.opcodes, trapGroup (BitVec.ofNat 8 n) = some g := by
  cases g <;> decide

/-- Among the 256 numbers, those of a group are the members of its list. -/
theorem trapGroup_eq_some_iff {n : Nat} (hn : n < 256) (g : TrapGroup) :
    trapGroup (BitVec.ofNat 8 n) = some g ↔ n ∈ g.opcodes := by
  refine ⟨fun h => ?_, trapGroup_of_mem_opcodes g n⟩
  have hmem := mem_opcodes_of_trapGroup _ g h
  rwa [BitVec.toNat_ofNat, Nat.mod_eq_of_lt hn] at hmem

/-- The trapping opcodes are those that have a group (R79, R196). -/
theorem trapGroup_isSome : ∀ op : Byte, (trapGroup op).isSome = isTrapOpcode op :=
  forall_byte (by decide +kernel)

/-! ## The size of a group -/

/-- Counting the numbers of a group among the 256 gives the length of its list. -/
theorem trapGroup_count (g : TrapGroup) :
    ((List.range 256).filter fun n => trapGroup (BitVec.ofNat 8 n) == some g).length = g.opcodes.length := by
  refine List.Perm.length_eq ((List.perm_ext_iff_of_nodup (List.nodup_range.filter _) g.opcodes_nodup).mpr fun n => ?_)
  rw [List.mem_filter, List.mem_range, beq_iff_eq]
  exact (and_congr_right fun hn => trapGroup_eq_some_iff hn g).trans (and_iff_right_of_imp (g.opcodes_lt n))

/-! ## The statements of the family -/

namespace Slice0

/-- Settles O45: the sizes of the groups are the lengths of their lists. -/
theorem trapGroupsAddUpTo121 : Obligations.TrapGroupsAddUpTo121 :=
  ⟨trapGroup_isSome, (List.map_congr_left fun g _ => trapGroup_count g).trans rfl⟩

end Slice0

end Sys2Proof
end

section
/-! Family `60_exceptions.md`: which form writes the latch and what every form keeps of memory; from these, what a step can do to the
latch, said once, and the invariant of every step. -/

namespace Sys2Proof

namespace Machine

/-! ## The latch and the canonical form under a form -/

/-- Every form but TRAP leaves the latch as it was (R201). -/
theorem formNextState_trapped {f : Form} (h : ∀ op, f ≠ .trap op) (s : State) :
    (formNextState f s).trapped = s.trapped := by
  cases f with
  | trap op => exact absurd rfl (h op)
  | _ => simp [formNextState, State.bumped, State.addedToA]

/-- The forms that store do so by operand, byte or word writes, each of which keeps the canonical form; the others leave memory. -/
theorem wf_formNextState {s : State} (h : s.mem.wf) (f : Form) : (formNextState f s).mem.wf := by
  cases f with
  | mov dst _ | mvi dst _ | inr dst | dcr dst => exact State.wf_writeOperand h dst _
  | stax _ | sta _ => exact State.wf_writeByte h _ _
  | shld _ => exact State.wf_writeWord h _ _
  | _ => simpa [formNextState, State.addedToA] using h

/-! ## What a step does to the latch -/

/-- An untrapped machine that fetches a trapping opcode takes the trap for it (R112, R203). -/
theorem step_eq_takeTrap {s : State} (h : s.trapped = false) (htrap : isTrapOpcode (s.readByte s.pc) = true) :
    step s = .next (s.takeTrap (s.readByte s.pc)) := by
  rw [step_eq_formNextState h, State.fetch_of_isTrapOpcode rfl htrap]
  rfl

/-- The inversion lemma of a step for the latch: the step takes the trap for the trapping opcode that it fetched, or it fetched
another opcode and leaves the machine untrapped (R201). -/
theorem takeTrap_or_untrapped_of_step {s t : State} (h : step s = .next t) :
    (isTrapOpcode (s.readByte s.pc) = true ∧ t = s.takeTrap (s.readByte s.pc)) ∨
      (isTrapOpcode (s.readByte s.pc) = false ∧ t.trapped = false) := by
  obtain ⟨huntrapped, -⟩ := step_next h
  cases htrap : isTrapOpcode (s.readByte s.pc) with
  | true =>
    rw [step_eq_takeTrap huntrapped htrap] at h
    cases h
    exact .inl ⟨rfl, rfl⟩
  | false =>
    rw [eq_formNextState_of_step h, formNextState_trapped (s.fetch_form_ne_trap htrap)]
    exact .inr ⟨rfl, huntrapped⟩

/-- No step faults: an untrapped machine goes on, a trapped one is refused (R113, R117). -/
theorem step_ne_fault (s : State) (r : Fault) : step s ≠ .fault r := by
  cases htrap : s.trapped with
  | false => exact step_eq_formNextState htrap ▸ nofun
  | true => exact step_of_trapped htrap ▸ nofun

/-! ## The trap record -/

theorem State.trapRecordHolds_of_untrapped {s : State} (h : s.trapped = false) : s.trapRecordHolds := by
  intro htrapped
  rw [h] at htrapped
  cases htrapped

/-- The trap entry leaves the program counter and memory, so what it records stays true (R203). -/
theorem State.trapRecordHolds_takeTrap {s : State} (h : isTrapOpcode (s.readByte s.pc) = true) :
    (s.takeTrap (s.readByte s.pc)).trapRecordHolds :=
  fun _ => ⟨rfl, rfl, h⟩

end Machine

/-! ## The statements of the family -/

namespace Slice0

open Machine

/-- Settles O59: every form keeps the canonical form, and a step that ends trapped has taken the trap itself. -/
theorem everyStepKeepsInvariant : Obligations.EveryStepKeepsInvariant := by
  rintro s t ⟨hwf, -⟩ h
  have hmem : t.mem.wf := eq_formNextState_of_step h ▸ wf_formNextState hwf _
  refine ⟨hmem, ?_⟩
  obtain ⟨htrap, rfl⟩ | ⟨-, huntrapped⟩ := takeTrap_or_untrapped_of_step h
  · exact State.trapRecordHolds_takeTrap htrap
  · exact State.trapRecordHolds_of_untrapped huntrapped

/-- Settles O38: the step is the trap entry for the fetched byte. -/
theorem fetchingTrapOpcodeTakesTrap : Obligations.FetchingTrapOpcodeTakesTrap :=
  fun s h htrap => ⟨_, step_eq_takeTrap h htrap, rfl, s.takeTrap_trapReport _⟩

/-- Settles O40: the two cases of a step. -/
theorem onlyTrapOpcodesTrap : Obligations.OnlyTrapOpcodesTrap := by
  intro s t h
  obtain ⟨htrap, rfl⟩ | ⟨htrap, huntrapped⟩ := takeTrap_or_untrapped_of_step h
  · exact iff_of_true rfl htrap
  · rw [huntrapped, htrap]

/-- Settles O47: every form answers a next state, and the only other answer of a step is the refusal. -/
theorem untrappedMachineAlwaysSteps : Obligations.UntrappedMachineAlwaysSteps :=
  fun s => ⟨fun h => ⟨_, step_eq_formNextState h⟩, step_ne_fault s⟩

/-- Settles O37: the meaning of TRAP is the trap entry. -/
theorem trapRecordsOpcodeAndPc : Obligations.TrapRecordsOpcodeAndPc :=
  fun op s _ => exec_eq_formNextState (.trap op) s

end Slice0

end Sys2Proof
end

section
/-! Family `70_reset_and_hazards.md`: the two host resets. -/

namespace Sys2Proof.Slice0

open Machine

/-- Settles O57: each reset assigns every register and clears TRAPPED, and an untrapped machine always steps (the step may itself
take a trap, which is a next state by log 3). -/
theorem hostResetClearsTrapAndKeepsMemory : Obligations.HostResetClearsTrapAndKeepsMemory := by
  intro s o
  have hstep : ∃ t, step s.hostReset = .next t := (untrappedMachineAlwaysSteps _).1 s.hostReset_trapped
  have hstepWith : ∃ t, step (s.hostResetWith o) = .next t :=
    (untrappedMachineAlwaysSteps _).1 (s.hostResetWith_trapped o)
  exact ⟨s.hostReset_mem, s.hostReset_trapped, s.hostReset_regs, s.hostReset_sp, s.hostReset_pc, s.hostReset_flags,
    s.hostReset_inte, hstep, s.hostResetWith_mem o, s.hostResetWith_trapped o, s.hostResetWith_regs o, s.hostResetWith_sp o,
    s.hostResetWith_pc o, s.hostResetWith_flags o, s.hostResetWith_inte o, hstepWith⟩

end Sys2Proof.Slice0
end

section
/-! Family `other`: the canonical form of memory as a normal form, and the invariant at reset. A memory in canonical form is a rising
list, so its members determine it, and its members are the addresses that read as a byte other than the unlisted one. -/

namespace Sys2Proof

namespace Machine

/-! ## What a memory reads as, by its cells -/

/-- A byte that an unlisted address does not read as is listed. This holds of every list, in canonical form or not. -/
theorem Memory.mem_of_lookup_ne {m : Memory} {k : Nat} (h : m.lookup k ≠ Memory.unlistedByte) : (k, m.lookup k) ∈ m := by
  induction m with
  | nil => exact absurd (Memory.lookup_nil k) h
  | cons cell m ih =>
    obtain ⟨j, w⟩ := cell
    rw [Memory.lookup_cons] at h ⊢
    split_ifs at h ⊢ with hjk
    · exact hjk ▸ List.mem_cons_self
    · exact List.mem_cons_of_mem _ (ih h)

/-- Where the addresses rise no cell hides a later one, so each cell is what its address reads as. -/
theorem Memory.lookup_of_mem {m : Memory} (hrising : m.Pairwise fun x y => x.1 < y.1) {k : Nat} {v : Byte} (h : (k, v) ∈ m) :
    m.lookup k = v := by
  induction m with
  | nil => cases h
  | cons cell m ih =>
    obtain ⟨j, w⟩ := cell
    obtain ⟨hfirst, hrest⟩ := List.pairwise_cons.mp hrising
    rw [Memory.lookup_cons]
    rcases List.mem_cons.mp h with heq | htail
    · cases heq
      exact if_pos rfl
    · rw [if_neg (hfirst _ htail).ne, ih hrest htail]

/-- The cells of a memory in canonical form that reads as another are cells of the other: an address above the space is no cell's
(R50). -/
theorem Memory.subset_of_lookup_eq {m n : Memory} (hm : m.wf) (h : ∀ a : Word, m.lookup a.toNat = n.lookup a.toNat) : m ⊆ n := by
  rintro ⟨k, v⟩ hcell
  obtain ⟨hrising, hcells⟩ := hm
  obtain ⟨hk, hv⟩ := hcells _ hcell
  have hread : n.lookup k = v := by
    have hword := h (BitVec.ofNat 16 k)
    rw [BitVec.toNat_ofNat, Nat.mod_eq_of_lt hk] at hword
    rw [← hword, Memory.lookup_of_mem hrising hcell]
  subst hread
  exact Memory.mem_of_lookup_ne hv

/-- Rising lists with the same cells are one list. -/
theorem Memory.eq_of_subset {m n : Memory} (hm : m.wf) (hn : n.wf) (hmn : m ⊆ n) (hnm : n ⊆ m) : m = n :=
  have : Std.Asymm fun x y : Host.Cell => x.1 < y.1 := ⟨fun _ _ => lt_asymm⟩
  List.Subset.antisymm_of_pairwise hm.1 hn.1 hmn hnm

end Machine

/-! ## The statements of the family -/

namespace Slice0

open Machine

/-- Settles O9: reading alike gives each memory's cells to the other. -/
theorem canonicalMemoriesThatReadAlikeAreEqual : Obligations.CanonicalMemoriesThatReadAlikeAreEqual :=
  fun _ _ hm hn h =>
    Memory.eq_of_subset hm hn (Memory.subset_of_lookup_eq hm h) (Memory.subset_of_lookup_eq hn fun a => (h a).symm)

/-- Settles O58: no byte is listed (the canonical form is log 11), and an untrapped state has no record to check. -/
theorem resetMeetsInvariant : Obligations.ResetMeetsInvariant :=
  ⟨Memory.wf_nil, State.trapRecordHolds_of_untrapped rfl⟩

end Slice0

end Sys2Proof
end
